-- ==== Sys2Proof/Word.lean ====
section
/-! DEFINITION. The widths of the machine's words (spec/00_scope.md rules R5, R8). -/

namespace Sys2Proof

/-- A data byte, 0 to 255, never signed (R8). -/
abbrev Byte := BitVec 8

/-- One instruction word, `I[12:0]` (R5, R140). -/
abbrev Word := BitVec 13

/-- A program address, `A14` to `A0` (R5, R23). -/
abbrev Addr := BitVec 15

end Sys2Proof
end

