-- ==== Sys2Proof/Syntax.lean ====
section
/-! DEFINITION. The instructions: one constructor for each of the 59 rows of spec/opcode_table.json,
in the table's order (spec/30_encoding.md rule R150). A constructor ending in `AR` sends its result to
A from a register, one in `RA` to the register, one in `AK` takes a literal; `decaR` is DECA R,
`decR` is DEC R. Operands are the word's own fields (R154, R155). -/

namespace Sys2Proof

/-- The field `r` of formats R and B, `I[5:0]` (R144). -/
abbrev Designator := BitVec 6

/-- The field `r` of format C, `I[3:0]`, the number of an IOC register (R143). -/
abbrev IocNumber := BitVec 4

/-- The field `b` of format B, `I[8:6]` (R145). -/
abbrev BitNumber := BitVec 3

inductive Instr where
  | nop
  | daa
  | contw
  | slep
  | wdtc
  | iow (r : IocNumber)
  | eni
  | disi
  | ret
  | reti
  | contr
  | ior (r : IocNumber)
  | tbl
  | movRA (r : Designator)
  | clra
  | clrR (r : Designator)
  | subAR (r : Designator)
  | subRA (r : Designator)
  | decaR (r : Designator)
  | decR (r : Designator)
  | orAR (r : Designator)
  | orRA (r : Designator)
  | andAR (r : Designator)
  | andRA (r : Designator)
  | xorAR (r : Designator)
  | xorRA (r : Designator)
  | addAR (r : Designator)
  | addRA (r : Designator)
  | movAR (r : Designator)
  | movRR (r : Designator)
  | comaR (r : Designator)
  | comR (r : Designator)
  | incaR (r : Designator)
  | incR (r : Designator)
  | djzaR (r : Designator)
  | djzR (r : Designator)
  | rrcaR (r : Designator)
  | rrcR (r : Designator)
  | rlcaR (r : Designator)
  | rlcR (r : Designator)
  | swapaR (r : Designator)
  | swapR (r : Designator)
  | jzaR (r : Designator)
  | jzR (r : Designator)
  | bc (r : Designator) (b : BitNumber)
  | bs (r : Designator) (b : BitNumber)
  | jbc (r : Designator) (b : BitNumber)
  | jbs (r : Designator) (b : BitNumber)
  | call (k : BitVec 10)
  | jmp (k : BitVec 10)
  | movAK (k : Byte)
  | orAK (k : Byte)
  | andAK (k : Byte)
  | xorAK (k : Byte)
  | retl (k : Byte)
  | subAK (k : Byte)
  | int
  | page (k : BitVec 4)
  | addAK (k : Byte)
deriving DecidableEq, Repr

end Sys2Proof
end

