-- ==== Sys2Proof/WellFormed.lean ====
section
/-! DEFINITION. Which instructions are well formed. Every field has exactly its width in the word, so the
only check left is the range of the IOC number: `r` = 6 to 15 in IOW and IOR (spec/30_encoding.md rules
R143, R151, R152). -/

namespace Sys2Proof

/-- An IOC register exists for 6 to 15 only (spec/20_memory.md rule R107). -/
def iocExists (r : IocNumber) : Bool := decide (6 ≤ r.toNat)

/-- The instruction has an encoding of its own. -/
def Instr.wellFormed : Instr → Bool
  | .iow r => iocExists r
  | .ior r => iocExists r
  | .nop | .daa | .contw | .slep | .wdtc | .eni | .disi | .ret | .reti | .contr | .tbl | .clra | .int => true
  | .movRA _ | .clrR _ | .subAR _ | .subRA _ | .decaR _ | .decR _ | .orAR _ | .orRA _ | .andAR _ | .andRA _ => true
  | .xorAR _ | .xorRA _ | .addAR _ | .addRA _ | .movAR _ | .movRR _ | .comaR _ | .comR _ | .incaR _ | .incR _ => true
  | .djzaR _ | .djzR _ | .rrcaR _ | .rrcR _ | .rlcaR _ | .rlcR _ | .swapaR _ | .swapR _ | .jzaR _ | .jzR _ => true
  | .bc _ _ | .bs _ _ | .jbc _ _ | .jbs _ _ | .call _ | .jmp _ => true
  | .movAK _ | .orAK _ | .andAK _ | .xorAK _ | .retl _ | .subAK _ | .page _ | .addAK _ => true

end Sys2Proof
end

