-- ==== Sys2Proof/Decode.lean ====
section
/-! DEFINITION. The decoder and the encoder, from the opcode map of spec/30_encoding.md rule R150. -/

namespace Sys2Proof

/-- What a word is: an instruction, or one of the 335 words no row gives a meaning (R152). -/
inductive Decoded where
  | instr (i : Instr)
  | unassigned (w : Word)
deriving DecidableEq, Repr

/-- `I[5:0]`, the register designator of formats R and B (R144, R145). -/
def fieldR (w : Word) : Designator := w.extractLsb' 0 6

/-- `I[8:6]`, the bit number of format B (R145). -/
def fieldB (w : Word) : BitNumber := w.extractLsb' 6 3

/-- `I[3:0]`, the IOC number of format C or the literal of format K4 (R143, R148). -/
def fieldLow4 (w : Word) : BitVec 4 := w.extractLsb' 0 4

/-- `I[7:0]`, the literal of format K8 (R147). -/
def fieldK8 (w : Word) : Byte := w.extractLsb' 0 8

/-- `I[9:0]`, the target of format K10 (R146). -/
def fieldK10 (w : Word) : BitVec 10 := w.extractLsb' 0 10

/-- Format Z: the words with no field, tested first (R142, R150, R151). -/
def decodeFixed (w : Word) : Option Instr :=
  match w.toNat with
  | 0x0000 => some .nop
  | 0x0001 => some .daa
  | 0x0002 => some .contw
  | 0x0003 => some .slep
  | 0x0004 => some .wdtc
  | 0x0010 => some .eni
  | 0x0011 => some .disi
  | 0x0012 => some .ret
  | 0x0013 => some .reti
  | 0x0014 => some .contr
  | 0x0020 => some .tbl
  | 0x0080 => some .clra
  | 0x1E01 => some .int
  | _ => none

/-- Format C: `0 0000 000s rrrr` with `r` = 6 to 15 (R143). -/
def decodeC (w : Word) : Decoded :=
  match iocExists (fieldLow4 w), (w.extractLsb' 4 2).toNat with
  | true, 0 => .instr (.iow (fieldLow4 w))
  | true, 1 => .instr (.ior (fieldLow4 w))
  | _, _ => .unassigned w

/-- Format R: `I[12:11] = 00`, the operation is `op7 = I[12:6]` (R144). `op7 = 0` holds format C, and no
row has `op7 = 2` but the fixed word CLRA. -/
def decodeR (w : Word) : Decoded :=
  match (w.extractLsb' 6 7).toNat with
  | 0x00 => decodeC w
  | 0x01 => .instr (.movRA (fieldR w))
  | 0x03 => .instr (.clrR (fieldR w))
  | 0x04 => .instr (.subAR (fieldR w))
  | 0x05 => .instr (.subRA (fieldR w))
  | 0x06 => .instr (.decaR (fieldR w))
  | 0x07 => .instr (.decR (fieldR w))
  | 0x08 => .instr (.orAR (fieldR w))
  | 0x09 => .instr (.orRA (fieldR w))
  | 0x0A => .instr (.andAR (fieldR w))
  | 0x0B => .instr (.andRA (fieldR w))
  | 0x0C => .instr (.xorAR (fieldR w))
  | 0x0D => .instr (.xorRA (fieldR w))
  | 0x0E => .instr (.addAR (fieldR w))
  | 0x0F => .instr (.addRA (fieldR w))
  | 0x10 => .instr (.movAR (fieldR w))
  | 0x11 => .instr (.movRR (fieldR w))
  | 0x12 => .instr (.comaR (fieldR w))
  | 0x13 => .instr (.comR (fieldR w))
  | 0x14 => .instr (.incaR (fieldR w))
  | 0x15 => .instr (.incR (fieldR w))
  | 0x16 => .instr (.djzaR (fieldR w))
  | 0x17 => .instr (.djzR (fieldR w))
  | 0x18 => .instr (.rrcaR (fieldR w))
  | 0x19 => .instr (.rrcR (fieldR w))
  | 0x1A => .instr (.rlcaR (fieldR w))
  | 0x1B => .instr (.rlcR (fieldR w))
  | 0x1C => .instr (.swapaR (fieldR w))
  | 0x1D => .instr (.swapR (fieldR w))
  | 0x1E => .instr (.jzaR (fieldR w))
  | 0x1F => .instr (.jzR (fieldR w))
  | _ => .unassigned w

/-- Formats K8 and K4: `I[12:11] = 11`, the operation is `I[10:8]` (R147, R148). -/
def decodeK8 (w : Word) : Decoded :=
  match (w.extractLsb' 8 3).toNat with
  | 0 => .instr (.movAK (fieldK8 w))
  | 1 => .instr (.orAK (fieldK8 w))
  | 2 => .instr (.andAK (fieldK8 w))
  | 3 => .instr (.xorAK (fieldK8 w))
  | 4 => .instr (.retl (fieldK8 w))
  | 5 => .instr (.subAK (fieldK8 w))
  | 6 => if (w.extractLsb' 4 4).toNat = 8 then .instr (.page (fieldLow4 w)) else .unassigned w
  | _ => .instr (.addAK (fieldK8 w))

/-- The patterns with fields, by the leading bits (R141, R150). -/
def decodeFields (w : Word) : Decoded :=
  match (w.extractLsb' 9 4).toNat with
  | 0x4 => .instr (.bc (fieldR w) (fieldB w))
  | 0x5 => .instr (.bs (fieldR w) (fieldB w))
  | 0x6 => .instr (.jbc (fieldR w) (fieldB w))
  | 0x7 => .instr (.jbs (fieldR w) (fieldB w))
  | 0x8 | 0x9 => .instr (.call (fieldK10 w))
  | 0xA | 0xB => .instr (.jmp (fieldK10 w))
  | 0x0 | 0x1 | 0x2 | 0x3 => decodeR w
  | _ => decodeK8 w

/-- Decode of any word: the fixed words first, then the patterns with fields (R150). -/
def decode (w : Word) : Decoded :=
  match decodeFixed w with
  | some i => .instr i
  | none => decodeFields w

/-- The word of an instruction: its base plus its fields in their positions (R150). -/
def encode : Instr → Word
  | .nop => 0x0000#13
  | .daa => 0x0001#13
  | .contw => 0x0002#13
  | .slep => 0x0003#13
  | .wdtc => 0x0004#13
  | .iow r => 0x0000#13 ||| r.setWidth 13
  | .eni => 0x0010#13
  | .disi => 0x0011#13
  | .ret => 0x0012#13
  | .reti => 0x0013#13
  | .contr => 0x0014#13
  | .ior r => 0x0010#13 ||| r.setWidth 13
  | .tbl => 0x0020#13
  | .movRA r => 0x0040#13 ||| r.setWidth 13
  | .clra => 0x0080#13
  | .clrR r => 0x00C0#13 ||| r.setWidth 13
  | .subAR r => 0x0100#13 ||| r.setWidth 13
  | .subRA r => 0x0140#13 ||| r.setWidth 13
  | .decaR r => 0x0180#13 ||| r.setWidth 13
  | .decR r => 0x01C0#13 ||| r.setWidth 13
  | .orAR r => 0x0200#13 ||| r.setWidth 13
  | .orRA r => 0x0240#13 ||| r.setWidth 13
  | .andAR r => 0x0280#13 ||| r.setWidth 13
  | .andRA r => 0x02C0#13 ||| r.setWidth 13
  | .xorAR r => 0x0300#13 ||| r.setWidth 13
  | .xorRA r => 0x0340#13 ||| r.setWidth 13
  | .addAR r => 0x0380#13 ||| r.setWidth 13
  | .addRA r => 0x03C0#13 ||| r.setWidth 13
  | .movAR r => 0x0400#13 ||| r.setWidth 13
  | .movRR r => 0x0440#13 ||| r.setWidth 13
  | .comaR r => 0x0480#13 ||| r.setWidth 13
  | .comR r => 0x04C0#13 ||| r.setWidth 13
  | .incaR r => 0x0500#13 ||| r.setWidth 13
  | .incR r => 0x0540#13 ||| r.setWidth 13
  | .djzaR r => 0x0580#13 ||| r.setWidth 13
  | .djzR r => 0x05C0#13 ||| r.setWidth 13
  | .rrcaR r => 0x0600#13 ||| r.setWidth 13
  | .rrcR r => 0x0640#13 ||| r.setWidth 13
  | .rlcaR r => 0x0680#13 ||| r.setWidth 13
  | .rlcR r => 0x06C0#13 ||| r.setWidth 13
  | .swapaR r => 0x0700#13 ||| r.setWidth 13
  | .swapR r => 0x0740#13 ||| r.setWidth 13
  | .jzaR r => 0x0780#13 ||| r.setWidth 13
  | .jzR r => 0x07C0#13 ||| r.setWidth 13
  | .bc r b => 0x0800#13 ||| b.setWidth 13 <<< 6 ||| r.setWidth 13
  | .bs r b => 0x0A00#13 ||| b.setWidth 13 <<< 6 ||| r.setWidth 13
  | .jbc r b => 0x0C00#13 ||| b.setWidth 13 <<< 6 ||| r.setWidth 13
  | .jbs r b => 0x0E00#13 ||| b.setWidth 13 <<< 6 ||| r.setWidth 13
  | .call k => 0x1000#13 ||| k.setWidth 13
  | .jmp k => 0x1400#13 ||| k.setWidth 13
  | .movAK k => 0x1800#13 ||| k.setWidth 13
  | .orAK k => 0x1900#13 ||| k.setWidth 13
  | .andAK k => 0x1A00#13 ||| k.setWidth 13
  | .xorAK k => 0x1B00#13 ||| k.setWidth 13
  | .retl k => 0x1C00#13 ||| k.setWidth 13
  | .subAK k => 0x1D00#13 ||| k.setWidth 13
  | .int => 0x1E01#13
  | .page k => 0x1E80#13 ||| k.setWidth 13
  | .addAK k => 0x1F00#13 ||| k.setWidth 13

/-- The word that the opcode table's bits `w` lay down in one program ROM cell. A cell has 13 bits, so a
table word with a higher bit set is no word of this machine (notes/assumptions/36.md). -/
def tableWord (nbits w : Nat) : Option Word :=
  let v := w % 2 ^ nbits
  if v < 2 ^ 13 then some (BitVec.ofNat 13 v) else none

/-- The instruction the decoder reads from the table's bits `w`. -/
def decodeTableWord (nbits w : Nat) : Option Instr :=
  match tableWord nbits w with
  | some v =>
    match decode v with
    | .instr i => some i
    | .unassigned _ => none
  | none => none

end Sys2Proof
end

