-- ==== Sys2Proof/Config.lean ====
section
/-! DEFINITION. The model's parameters (spec/00_scope.md rule R6) and its free values.

`Params` holds the open parameters the spec names. They are plain data, held in `State.cfg`, so a
statement for every state is a statement for every choice of them; no step changes them
(notes/assumptions/3.md). The opaque constants are the values the spec leaves free: they have no
body, so nothing can be proved of them (notes/assumptions/4.md). -/

namespace Sys2Proof

/-- The lowest banked general register (R104, D1): the literal reading or the family's. -/
inductive BankSplit where
  | r13
  | r20
deriving DecidableEq, Repr

/-- The supply condition that the CODE Option lets cause a reset (R401, D40). -/
inductive ResetSource where
  | powerOn
  | voltageDetector
deriving DecidableEq, Repr

/-- The open parameters of rule R6, by the names the spec gives them. -/
structure Params where
  /-- `BANK_SPLIT` (D1). -/
  bankSplit : BankSplit
  /-- `LCDRAM_SIZE`, at most 4096 (D21). -/
  lcdSize : Fin 4097
  /-- Whether a read of R12 returns what was stored; false is the "safe alternative" of R109, every read free. -/
  lcdReadsBack : Bool
  /-- `R2_READS_NEXT` (D4). -/
  r2ReadsNext : Bool
  /-- `SUB_C_IS_NOT_BORROW` (D8). -/
  subCIsNotBorrow : Bool
  /-- Whether `daa` is the default function of R223; false leaves it abstract (D9). -/
  daaDefault : Bool
  /-- `INT_ENTRY_CLEARS_IE` (D14). -/
  intEntryClearsIe : Bool
  /-- `R3_TP_WRITABLE` (D13). -/
  r3TpWritable : Bool
  /-- `RESET_SOURCE` (D40). -/
  resetSource : ResetSource
  /-- `WDT_MIN_STEPS` (D24). -/
  wdtMinSteps : Nat
deriving DecidableEq, Repr

namespace Config

/-- The defaults of rule R6; BANK_SPLIT, LCDRAM_SIZE and RESET_SOURCE have none there and are a
DESIGN CHOICE (notes/assumptions/3.md). -/
def defaults : Params where
  bankSplit := .r13
  lcdSize := 4096
  lcdReadsBack := true
  r2ReadsNext := true
  subCIsNotBorrow := true
  daaDefault := true
  intEntryClearsIe := true
  r3TpWritable := false
  resetSource := .powerOn
  wdtMinSteps := 0

/-- The free byte of the `n`-th draw (the spec's "draw", R9): unused bits, floating pins, and what a
reset event leaves unspecified. DESIGN CHOICE in form, notes/assumptions/4.md. -/
opaque freeByte : Nat → Byte

/-- General register cell `key` after the `epoch`-th reset event (R86, D25). -/
opaque ramAtReset : Nat → Nat → Byte

/-- LCD RAM byte `key` after the `epoch`-th reset event (R86, D25). -/
opaque lcdAtReset : Nat → Nat → Byte

/-- The data ROM byte at an address: a parameter of the model (R6, R108). -/
opaque dataRom : Nat → Byte

/-- Any decimal adjust function: `A`, `C`, `DC` to the new `A` and `C` (R223, D9). -/
opaque daaOther : Byte → Bool → Bool → Byte × Bool

/-- `MAIN_CLOCK_11`, the main clock in Hz with MS1, MS0 = 1, 1 (R44, U9). Timing only. -/
opaque mainClock11 : Nat

/-- The buzzer's rate with the divisor 0 (R72, U10). Timing only. -/
opaque buzzerZero : Nat

/-- Whether the instruction of a word takes two instruction cycles (R421, D41). Timing only. -/
opaque twoCycles : Word → Bool

end Config

end Sys2Proof
end

