-- ==== Sys2Proof/Machine/State.lean ====
section
/-! DEFINITION. The machine's state as plain data, its reset, and the reasons a step can stop.
The state follows spec/10_state.md (section 6 lists it at a glance); INVENTORY.md gives each field's rule
and reset value. -/

namespace Sys2Proof.Machine

/-- Why a step faults: a memory cell the access needs is not there. The chip itself reports nothing
(R320); a fault is the model's stop. -/
inductive Fault where
  /-- Raised by the fetch of a program ROM cell whose content is not known (R101, U31). Safe: the machine
  stops where the chip would run whatever the cell holds. -/
  | romCellUnknown (address : Nat)
  /-- Raised by an access through R12 at or above `LCDRAM_SIZE` (R109, U18). Safe: the machine stops. -/
  | lcdCellAbsent (address : Nat)
deriving DecidableEq, Repr

/-- Why a step refuses: the spec gives the situation no meaning (R321). Every one is safe: the machine
stops where the chip does something the spec does not say. -/
inductive Refusal where
  /-- Raised by `exec` for an instruction that has no meaning yet. Safe. No arm raises it now. -/
  | notModelled (mnemonic : String)
  /-- Raised by the step at one of the 335 words without a meaning (R152, U1). Safe. -/
  | unassignedWord (w : Word)
  /-- Raised by CALL, INT and interrupt entry with eight entries held (R30, U2). Safe. -/
  | stackFull
  /-- Raised by RET, RETL, RETI on the empty stack (R30, U2). Safe. -/
  | stackEmpty
  /-- Raised by sequential flow or a skip past 0x7FFF, and by CALL and INT at 0x7FFF, whose return
  address is no program address (R29, R281, U3). Safe. -/
  | pastProgramEnd
  /-- Raised by an instruction with destination R2 other than MOV R,A and ADD R,A (R26, U4). Safe. -/
  | programCounterDestination
  /-- Raised by an instruction with destination R3 that also affects a flag (R37, U5). Safe. -/
  | statusDestination
  /-- Raised by a write of RE (R50, U6). Safe. -/
  | dataRomWrite
  /-- Raised by an access through R0 with R4[5:0] = 0 (R105, U7). Safe. -/
  | indirectPointerZero
  /-- Raised by IOW and IOR of IOCD and IOCE with PAGE = 1 (R107, U8). Safe. -/
  | controlPageAbsent
  /-- Raised by an ill-formed IOW or IOR, with a number below 6; no word decodes to one (R107, R152). Safe. -/
  | controlRegisterAbsent
deriving DecidableEq, Repr

/-- The CPU's run state (R80). -/
inductive Run where
  | running
  | idle
deriving DecidableEq, Repr

/-- The four I/O ports (R40). -/
inductive PortId where
  | port6
  | port7
  | port8
  | port9
deriving DecidableEq, Repr

/-- What the outside does to a pin: drives it, or leaves it floating at a level of the environment's
own (R81, R378). -/
inductive PinDrive where
  | driven (level : Bool)
  | floating (level : Bool)
deriving DecidableEq, Repr

/-- The supply as the low-power detector sees it (R46, R380). -/
inductive Supply where
  | below22
  | between
  | above24
deriving DecidableEq, Repr

/-- The events of the environment and the peripherals, each between two CPU steps (R390). -/
inductive Event where
  /-- One tick of the TCC's count source (R363). -/
  | tccTick
  /-- The watchdog's time-out (R367). -/
  | watchdog
  /-- One period of COUNTER1's source (R372). -/
  | counter1Tick
  /-- One period of COUNTER2's source (R372). -/
  | counter2Tick
  /-- The outside changes what it does to one pin (R390). -/
  | pin (p : PortId) (i : Fin 8) (d : PinDrive)
  /-- The supply moves, as the low-power detector sees it (R380). -/
  | supply (v : Supply)
  /-- A supply condition that resets, of the kind given (R400 cause 1, R401). -/
  | supplyReset (c : ResetSource)
  /-- The /RESET pin goes low (`true`) or high (R400 cause 3). -/
  | resetPin (low : Bool)
deriving DecidableEq, Repr

/-- Who moves next: the CPU, or an event of the environment (R11, R12). -/
inductive Turn where
  | cpu
  | event (e : Event)
deriving DecidableEq, Repr

/-- One port: its output latch, its direction register IOCn (1 = input), and what the outside does to its
pins (R40, R66, R81). `ext` is the level the outside gives a pin; where `driven` is 0 the pin floats. -/
structure Port where
  latch : Byte
  dir : Byte
  ext : Byte
  driven : Byte
deriving DecidableEq, Repr

/-- The address spaces that hold cells (R100), each a sparse list in one canonical form (`Memory.wf`). -/
structure Memory where
  /-- Program ROM words whose content is known (R101). -/
  rom : List (Nat × Word)
  /-- Data ROM bytes whose content is known; the others are the parameter `Config.dataRom` (R108). -/
  drom : List Host.Cell
  /-- General registers: key 64 * bank + designator (R57, R104). -/
  ram : List Host.Cell
  /-- LCD RAM (R109). -/
  lcd : List Host.Cell
  /-- How many reset events there were: what unlisted RAM reads as depends on it (R86). -/
  epoch : Nat
deriving DecidableEq, Repr

/-- The machine (spec/10_state.md section 6). -/
structure State where
  /-- Accumulator (R60). -/
  a : Byte
  /-- Program counter; R2 is its low 8 bits (R23). -/
  pc : Addr
  /-- Return stack, top first, at most 8 entries (R30). -/
  stack : List Addr
  /-- Global interrupt enable `IE` (R76). -/
  ie : Bool
  /-- Status register: LPDEN PAGE - T P Z DC C; the unused bit 5 is never stored (R31, R36). -/
  r3 : Byte
  /-- RAM select register (R38). -/
  r4 : Byte
  /-- Program page select, PS4 to PS0 (R39). -/
  r5 : BitVec 5
  /-- Run state (R80). -/
  run : Run
  /-- The /RESET pin is low (R82, D26). -/
  resetLow : Bool
  /-- The model's own: after a wake-up, one instruction runs before the request is examined (R358). -/
  irqHold : Bool
  /-- TCC, R1 (R22). -/
  tcc : Byte
  /-- Control register CONT (R61). -/
  cont : Byte
  /-- Prescaler `PRE` (R77). -/
  pre : Byte
  /-- Watchdog: steps, an idle CPU's turns among them, since it was last cleared (R78, R368). -/
  wdt : Nat
  /-- COUNTER1, page 1 of IOCB (R69, R79). -/
  cnt1 : Byte
  /-- COUNTER2, page 1 of IOCC (R71, R79). -/
  cnt2 : Byte
  /-- COUNTER1's prescaler `CPRE1`, as far as a count can show it (R79, R372). -/
  cpre1 : BitVec 3
  /-- Port 6 with IOC6 (R40, R66). -/
  p6 : Port
  /-- Port 7 with IOC7 (R40, R66). -/
  p7 : Port
  /-- Port 8 with IOC8 (R40, R66). -/
  p8 : Port
  /-- Port 9 with IOC9 (R40, R66). -/
  p9 : Port
  /-- RA bits 6 to 0: CLOCK MS1 MS0 /WDT P92_W P91_W P90_W (R41). -/
  ra : BitVec 7
  /-- RA bit 7, the low-power detector's output LPD (R46). -/
  lpd : Bool
  /-- The supply as the detector saw it last, an input like the pins (R46, R380). -/
  vdd : Supply
  /-- RB, data ROM address A7 to A0 (R47). -/
  rb : Byte
  /-- RC, data ROM address A15 to A8 (R48). -/
  rc : Byte
  /-- RD bits 4 to 0, data ROM address A20 to A16 (R49). -/
  rd : BitVec 5
  /-- RF bits 6 to 0, interrupt flags (R51). -/
  rf : BitVec 7
  /-- R10, LCD RAM address A7 to A0 (R54). -/
  r10 : Byte
  /-- R11 bits 3 to 0, LCD RAM address A11 to A8 (R55). -/
  r11 : BitVec 4
  /-- IOCA bits 7 to 4: C2S C1S PSC1 PSC0 (R67). -/
  ioca : BitVec 4
  /-- IOCB page 0, port 6 pull-high (R68). -/
  iocb : Byte
  /-- IOCC page 0, port 8 pull-high (R70). -/
  iocc : Byte
  /-- IOCD, buzzer divisor (R72). -/
  iocd : Byte
  /-- IOCE bits 1 to 0: BCLK BEN (R73). -/
  ioce : BitVec 2
  /-- IOCF bits 6 to 0, interrupt mask (R74). -/
  iocf : BitVec 7
  /-- The address spaces (R100). -/
  mem : Memory
  /-- The model's own: the open parameters (R6); no step changes them. -/
  cfg : Params
  /-- The model's own: the turns laid down by the environment; when it is empty the CPU moves. -/
  agenda : List Turn
  /-- The model's own: how many free values were drawn. -/
  draws : Nat
deriving DecidableEq, Repr

/-- A port after power-on: every pin an input (R84); latch and outside are the model's choice
(notes/assumptions/5.md, 27.md). -/
def Port.reset : Port := { latch := 0, dir := 0xFF, ext := 0, driven := 0 }

/-- No cell of any space is listed. -/
def Memory.empty : Memory := { rom := [], drom := [], ram := [], lcd := [], epoch := 0 }

/-- The machine right after a power-on reset (R83 to R86, R402). The values the spec does not give are named
in notes/assumptions/5.md, 6.md and 7.md. -/
def State.reset : State where
  a := 0
  pc := 0
  stack := []
  ie := false
  r3 := 0x18
  r4 := 0x20
  r5 := 0
  run := .running
  resetLow := false
  irqHold := false
  tcc := 0
  cont := 0xFF
  pre := 0
  wdt := 0
  cnt1 := 0
  cnt2 := 0
  cpre1 := 0
  p6 := Port.reset
  p7 := Port.reset
  p8 := Port.reset
  p9 := Port.reset
  ra := 0
  lpd := false
  vdd := .above24
  rb := 0
  rc := 0
  rd := 0
  rf := 0
  r10 := 0
  r11 := 0
  ioca := 0
  iocb := 0
  iocc := 0
  iocd := 0
  ioce := 0
  iocf := 0
  mem := Memory.empty
  cfg := Config.defaults
  agenda := []
  draws := 0

/-- The answer of a meaning or a step. -/
abbrev Answer := Host.Outcome State Fault Refusal

/-! ### Named updates of one field -/

def State.setA (s : State) (v : Byte) : State := { s with a := v }
def State.setPc (s : State) (v : Addr) : State := { s with pc := v }
def State.setStack (s : State) (v : List Addr) : State := { s with stack := v }
def State.setIe (s : State) (v : Bool) : State := { s with ie := v }
def State.setStatus (s : State) (v : Byte) : State := { s with r3 := v }
def State.setPage (s : State) (v : BitVec 5) : State := { s with r5 := v }
def State.setRun (s : State) (v : Run) : State := { s with run := v }
def State.setHold (s : State) (v : Bool) : State := { s with irqHold := v }
def State.setCont (s : State) (v : Byte) : State := { s with cont := v }
def State.setPre (s : State) (v : Byte) : State := { s with pre := v }
def State.setWdt (s : State) (v : Nat) : State := { s with wdt := v }
def State.setRf (s : State) (v : BitVec 7) : State := { s with rf := v }
def State.setMem (s : State) (v : Memory) : State := { s with mem := v }
def State.setAgenda (s : State) (v : List Turn) : State := { s with agenda := v }
def State.setDraws (s : State) (v : Nat) : State := { s with draws := v }

end Sys2Proof.Machine
end

