-- ==== Sys2Proof/Machine/Flags.lean ====
section
/-! DEFINITION. The status bits of R3 and the arithmetic that gives a result and its flags
(spec/10_state.md rules R31 to R34, spec/42_arith_logic.md rules R220 to R223, spec/43_rotate_bit.md). -/

namespace Sys2Proof.Machine

/-! ### Bits -/

/-- `v` with bit `i` set to `b`, the other bits kept. -/
def putBit (i : Nat) (b : Bool) (v : Byte) : Byte :=
  if b then v ||| (1#8 <<< i) else v &&& ~~~(1#8 <<< i)

/-- `v` with bit `i` set where a value is given. -/
def putBit? (i : Nat) (b : Option Bool) (v : Byte) : Byte :=
  match b with
  | some x => putBit i x v
  | none => v

/-! ### The fields of R3 (R31) -/

def State.flagC (s : State) : Bool := s.r3.getLsbD 0
def State.flagDC (s : State) : Bool := s.r3.getLsbD 1
def State.flagZ (s : State) : Bool := s.r3.getLsbD 2
def State.flagP (s : State) : Bool := s.r3.getLsbD 3
def State.flagT (s : State) : Bool := s.r3.getLsbD 4
/-- PAGE, the page of IOCB to IOCE (R36). -/
def State.iocPage (s : State) : Bool := s.r3.getLsbD 6
/-- LPDEN, the low-power detector's enable (R36). -/
def State.lpdEnabled (s : State) : Bool := s.r3.getLsbD 7

/-- R3 with T and P set (R35). -/
def statusTP (t p : Bool) (r3 : Byte) : Byte := putBit 4 t (putBit 3 p r3)

/-! ### Results and flags -/

/-- A result with the flags its instruction writes; `none` leaves a flag unchanged (R32). -/
structure Alu where
  val : Byte
  c : Option Bool := none
  dc : Option Bool := none
  z : Option Bool := none
deriving DecidableEq, Repr

/-- R3 after a result's flags are written. -/
def Alu.status (x : Alu) (r3 : Byte) : Byte := putBit? 2 x.z (putBit? 1 x.dc (putBit? 0 x.c r3))

/-- The zero flag by value (R222). -/
def isZero (v : Byte) : Bool := decide (v = 0#8)

/-- A result that writes Z only (R222). -/
def zeroAlu (v : Byte) : Alu := { val := v, z := some (isZero v) }

/-- Addition with its flags (R220). -/
def addAlu (a b : Byte) : Alu :=
  let s := a.setWidth 9 + b.setWidth 9
  { val := s.setWidth 8
    c := some (s.getLsbD 8)
    dc := some (decide (15 < (a.extractLsb' 0 4).toNat + (b.extractLsb' 0 4).toNat))
    z := some (isZero (s.setWidth 8)) }

/-- Subtraction `m - s` with its flags (R221); `notBorrow` is `SUB_C_IS_NOT_BORROW`. -/
def subAlu (notBorrow : Bool) (m s : Byte) : Alu :=
  { val := m - s
    c := some (decide (s.toNat ≤ m.toNat) == notBorrow)
    dc := some (decide ((s.extractLsb' 0 4).toNat ≤ (m.extractLsb' 0 4).toNat) == notBorrow)
    z := some (isZero (m - s)) }

/-- The default decimal adjust (R223). -/
def daaDefault (a : Byte) (c dc : Bool) : Byte × Bool :=
  let t := a.setWidth 9 + (if 9 < (a.extractLsb' 0 4).toNat ∨ dc then 6#9 else 0#9)
  let hi := decide (9 < (t.extractLsb' 4 4).toNat) || c || t.getLsbD 8
  let u := t + (if hi then 0x60#9 else 0#9)
  (u.setWidth 8, hi)

/-- `daa`: the default function, or any other where the parameter leaves it abstract (R6, R223, D9). -/
def daaFun (isDefault : Bool) (a : Byte) (c dc : Bool) : Byte × Bool :=
  if isDefault then daaDefault a c dc else Config.daaOther a c dc

/-- Decimal adjust with the one flag it writes (R223). -/
def daaAlu (isDefault : Bool) (a : Byte) (c dc : Bool) : Alu :=
  { val := (daaFun isDefault a c dc).1, c := some (daaFun isDefault a c dc).2 }

/-- Rotate right through the carry: `c : v[7:1]`, and `v[0]` to C (R260). -/
def rotateRight (c : Bool) (v : Byte) : Alu :=
  { val := BitVec.ofBool c ++ v.extractLsb' 1 7, c := some (v.getLsbD 0) }

/-- Rotate left through the carry: `v[6:0] : c`, and `v[7]` to C (R262). -/
def rotateLeft (c : Bool) (v : Byte) : Alu :=
  { val := v.extractLsb' 0 7 ++ BitVec.ofBool c, c := some (v.getLsbD 7) }

/-- The nibbles exchanged: `v[3:0] : v[7:4]` (R206). -/
def swapNibbles (v : Byte) : Byte := v.extractLsb' 0 4 ++ v.extractLsb' 4 4

end Sys2Proof.Machine
end

