-- ==== Sys2Proof/Machine/Ops.lean ====
section
/-! DEFINITION. The named operations over memory, program counter, stack, pins and free values, and taking
the hardware interrupt (spec/10_state.md R24 to R30, spec/20_memory.md, spec/60_exceptions.md R330 to R337). -/

namespace Sys2Proof.Machine

/-! ### Sequencing -/

/-- Go on with the result, or stop where the first part stops. -/
def andThen {α β : Type} (o : Host.Outcome α Fault Refusal) (k : α → Host.Outcome β Fault Refusal) :
    Host.Outcome β Fault Refusal :=
  match o with
  | .next x => k x
  | .fault r => .fault r
  | .refused r => .refused r

/-! ### Sparse memory -/

/-- What a sorted list holds for a key. -/
def lookupCell {n : Nat} (k : Nat) : List (Nat × BitVec n) → Option (BitVec n)
  | [] => none
  | (j, v) :: l => if j = k then some v else lookupCell k l

/-- The list with the key's entry set, in order. -/
def insertCell {n : Nat} (k : Nat) (v : BitVec n) : List (Nat × BitVec n) → List (Nat × BitVec n)
  | [] => [(k, v)]
  | (j, w) :: l =>
    if k < j then (k, v) :: (j, w) :: l
    else if k = j then (k, v) :: l
    else (j, w) :: insertCell k v l

/-- The list without the key's entry. -/
def eraseCell {n : Nat} (k : Nat) : List (Nat × BitVec n) → List (Nat × BitVec n)
  | [] => []
  | (j, w) :: l => if j = k then l else (j, w) :: eraseCell k l

/-- A write that keeps the canonical form: the value an unlisted cell reads as is not listed. -/
def storeCell {n : Nat} (fill v : BitVec n) (k : Nat) (l : List (Nat × BitVec n)) : List (Nat × BitVec n) :=
  if v = fill then eraseCell k l else insertCell k v l

/-- The keys rise strictly. -/
abbrev keysRise {n : Nat} (l : List (Nat × BitVec n)) : Prop := (l.map Prod.fst).Pairwise (· < ·)

/-- What a general register that nothing has written reads as: 0 from power-on (DESIGN CHOICE,
notes/assumptions/7.md), a free value after a reset event (R86). -/
def Memory.ramFill (m : Memory) (k : Nat) : Byte := if m.epoch = 0 then 0#8 else Config.ramAtReset m.epoch k

/-- The same for the LCD RAM. -/
def Memory.lcdFill (m : Memory) (k : Nat) : Byte := if m.epoch = 0 then 0#8 else Config.lcdAtReset m.epoch k

def Memory.ramRead (m : Memory) (k : Nat) : Byte := (lookupCell k m.ram).getD (m.ramFill k)

def Memory.ramWrite (m : Memory) (k : Nat) (v : Byte) : Memory :=
  { m with ram := storeCell (m.ramFill k) v k m.ram }

def Memory.lcdRead (m : Memory) (k : Nat) : Byte := (lookupCell k m.lcd).getD (m.lcdFill k)

def Memory.lcdWrite (m : Memory) (k : Nat) (v : Byte) : Memory :=
  { m with lcd := storeCell (m.lcdFill k) v k m.lcd }

/-- A data ROM byte: the listed content, else the parameter `DROM` (R108). -/
def Memory.dromRead (m : Memory) (k : Nat) : Byte := (lookupCell k m.drom).getD (Config.dataRom k)

/-- A program ROM word; unlisted cells have no known content (U31). -/
def Memory.romRead (m : Memory) (k : Nat) : Option Word := lookupCell k m.rom

/-- Load one program ROM word from outside the machine; no instruction does (R101). -/
def Memory.romLoad (m : Memory) (k : Nat) (w : Word) : Memory := { m with rom := insertCell k w m.rom }

/-- The RAM and LCD RAM after a reset event: nothing is known of them (R86, R403). -/
def Memory.afterReset (m : Memory) : Memory := { m with ram := [], lcd := [], epoch := m.epoch + 1 }

/-- The one canonical form of each space: keys strictly rising, inside the space (R100), and no listed RAM
byte equal to what the unlisted cell reads as. -/
abbrev Memory.wf (m : Memory) : Prop :=
  (keysRise m.rom ∧ ∀ c ∈ m.rom, c.1 < 32768) ∧
  (keysRise m.drom ∧ ∀ c ∈ m.drom, c.1 < 2097152) ∧
  (keysRise m.ram ∧ ∀ c ∈ m.ram, c.1 < 256 ∧ c.2 ≠ m.ramFill c.1) ∧
  (keysRise m.lcd ∧ ∀ c ∈ m.lcd, c.1 < 4096 ∧ c.2 ≠ m.lcdFill c.1)

/-! ### Free values -/

/-- The free byte that the next draw gives, `i` draws ahead. -/
def State.freeByte (s : State) (i : Nat) : Byte := Config.freeByte (s.draws + i)

/-- The state after `n` draws. -/
def State.drew (s : State) (n : Nat) : State := s.setDraws (s.draws + n)

/-! ### Program counter -/

/-- The address of the following word, `(pc + 1) mod 32768` (R9). -/
def State.nextPc (s : State) : Addr := s.pc + 1

/-- Sequential flow: `pc <- next`, refused past 0x7FFF (R24, R29). -/
def advance (s : State) : Answer :=
  if s.pc = 0x7FFF#15 then .refused .pastProgramEnd else .next (s.setPc s.nextPc)

/-- A skip: `pc <- pc + 2`, refused past 0x7FFF (R29, R293). -/
def skip (s : State) : Answer :=
  if 0x7FFE ≤ s.pc.toNat then .refused .pastProgramEnd else .next (s.setPc (s.pc + 2))

/-- The end of a conditional skip (R293). -/
def skipIf (cond : Bool) (s : State) : Answer := if cond then skip s else advance s

/-- A read of R2: a program-counter byte, of the next or of this address (R28, D4). -/
def State.pcl (s : State) : Byte :=
  if s.cfg.r2ReadsNext then s.nextPc.setWidth 8 else s.pc.setWidth 8

/-- Paged absolute target, `R5[4:0] : k` (R280). -/
def State.pageTarget (s : State) (k : BitVec 10) : Addr := s.r5 ++ k

/-- The target of MOV R2,A and ADD R2,A, `R5[4:0] : 00 : v` (R298, R299). -/
def State.computedTarget (s : State) (v : Byte) : Addr := s.r5 ++ (0#2 ++ v)

/-- The target of TBL, `pc[14:8] : v` (R285). -/
def State.tableTarget (s : State) (v : Byte) : Addr := s.pc.extractLsb' 8 7 ++ v

/-! ### Stack -/

/-- `push(v)`: refused with 8 entries held (R30). -/
def push (v : Addr) (s : State) : Answer :=
  if 8 ≤ s.stack.length then .refused .stackFull else .next (s.setStack (v :: s.stack))

/-- `push(next)` of CALL and INT; 0x7FFF has no next program address (R281, R29). -/
def pushNext (s : State) : Answer :=
  if s.pc = 0x7FFF#15 then .refused .pastProgramEnd else push s.nextPc s

/-- `pop()`: refused on the empty stack (R30). Returns the top and the state without it. -/
def pop (s : State) : Host.Outcome (Addr × State) Fault Refusal :=
  match s.stack with
  | [] => .refused .stackEmpty
  | v :: rest => .next (v, s.setStack rest)

/-- The return of RET, RETL and RETI: `pc <- pop()` (R282). -/
def returnToTop (s : State) : Answer :=
  andThen (pop s) fun p => .next (p.2.setPc p.1)

/-! ### The hardware interrupt -/

/-- The request: `IE = 1` and `RF & IOCF` not zero (R330). -/
def State.interruptRequested (s : State) : Bool := s.ie && decide (s.rf &&& s.iocf ≠ 0#7)

/-- Entry: push the address of the instruction not executed, go to 0x0008, and clear `IE` where
`INT_ENTRY_CLEARS_IE` holds (R334). -/
def interruptEntry (s : State) : Answer :=
  andThen (push s.pc s) fun t =>
    .next ((t.setPc 0x0008#15).setIe (if s.cfg.intEntryClearsIe then false else s.ie))

/-! ### Ports and pins -/

def State.port (s : State) : PortId → Port
  | .port6 => s.p6
  | .port7 => s.p7
  | .port8 => s.p8
  | .port9 => s.p9

def State.setPort (s : State) (p : PortId) (v : Port) : State :=
  match p with
  | .port6 => { s with p6 := v }
  | .port7 => { s with p7 := v }
  | .port8 => { s with p8 := v }
  | .port9 => { s with p9 := v }

/-- The pull-high enables: ports 6 and 8 only (R68, R70, R378). -/
def State.pullHigh (s : State) : PortId → Byte
  | .port6 => s.iocb
  | .port8 => s.iocc
  | .port7 => 0#8
  | .port9 => 0#8

/-- The input pins nothing drives and no pull-high holds (R378, U16). -/
def State.floatingPins (s : State) (p : PortId) : Byte :=
  (s.port p).dir &&& ~~~(s.port p).driven &&& ~~~s.pullHigh p

/-- The level of each pin: the latch where it is an output; where it is an input, what the outside drives,
1 where only the pull-high acts, and the environment's level where it floats (R81). -/
def State.pinLevel (s : State) (p : PortId) : Byte :=
  ((s.port p).latch &&& ~~~(s.port p).dir) |||
  ((s.port p).dir &&& (((s.port p).driven &&& (s.port p).ext) |||
    (~~~(s.port p).driven &&& (s.pullHigh p ||| (s.port p).ext))))

/-- The flags that high-to-low edges on port 6 raise: INT0, INT1, INT2 or INT3, INT4 to INT7 (R322). -/
def edgeFlags (fell : Byte) : BitVec 7 :=
  0#2 ++ BitVec.ofBool (decide (fell &&& 0xF0#8 ≠ 0#8)) ++ BitVec.ofBool (decide (fell &&& 0x0C#8 ≠ 0#8)) ++
    BitVec.ofBool (fell.getLsbD 1) ++ BitVec.ofBool (fell.getLsbD 0) ++ 0#1

/-- Events set the flags whose mask bit is set (R52). -/
def State.raise (s : State) (f : BitVec 7) : State := s.setRf (s.rf ||| (f &&& s.iocf))

/-- The pins of `p` that were 1 before and are 0 after (R323). -/
def fallenPins (before after : State) (p : PortId) : Byte := before.pinLevel p &&& ~~~after.pinLevel p

/-- `after`, with the flags of the port-6 edges since `before` (R322, R323). -/
def recordEdges (before after : State) : State := after.raise (edgeFlags (fallenPins before after .port6))

/-! ### The watchdog's and the prescaler's clear -/

/-- CONT.PAB: the prescaler belongs to the watchdog (R63). -/
def State.prescalerOnWdt (s : State) : Bool := s.cont.getLsbD 3

/-- `WDT <- 0`, and `PRE <- 0` when the prescaler is the watchdog's (R185, R186, R369). -/
def State.clearWdt (s : State) : State := (s.setWdt 0).setPre (if s.prescalerOnWdt then 0#8 else s.pre)

/-! ### Fetch -/

/-- The instruction word at `pc` (R24, R101). -/
def fetch (s : State) : Host.Outcome Word Fault Refusal :=
  match s.mem.romRead s.pc.toNat with
  | some w => .next w
  | none => .fault (.romCellUnknown s.pc.toNat)

end Sys2Proof.Machine
end

