-- ==== Sys2Proof/Machine/Operands.lean ====
section
/-! DEFINITION. Operands: from a register designator to the cell it names, the reads and writes of every
cell with their side effects (spec/20_memory.md rules R103 to R109), the control registers (R107), and the
shapes the register instructions share. -/

namespace Sys2Proof.Machine

/-! ### Cells -/

/-- What a designator names (R103). `gpr` carries the key of a general register in `Memory.ram`. -/
inductive Cell where
  | tcc
  | pcl
  | status
  | rsr
  | page
  | port (p : PortId)
  | ra
  | rb
  | rc
  | rd
  | re
  | rf
  | r10
  | r11
  | r12
  | gpr (key : Nat)
deriving DecidableEq, Repr

/-- `eff(r)`: R4[5:0] for R0, else the designator itself (R103, R105). -/
def effective (r : Designator) (s : State) : Designator := if r = 0#6 then s.r4.setWidth 6 else r

/-- The key of a general register: designators below `BANK_SPLIT` are common to all banks (R104). -/
def gprKey (split : BankSplit) (bank : BitVec 2) (e : Nat) : Nat :=
  match split with
  | .r13 => 64 * bank.toNat + e
  | .r20 => if e < 0x20 then e else 64 * bank.toNat + e

/-- `cell(e)` (R103); R0 is no cell. -/
def cellOf (e : Designator) (s : State) : Option Cell :=
  match e.toNat with
  | 0x00 => none
  | 0x01 => some .tcc
  | 0x02 => some .pcl
  | 0x03 => some .status
  | 0x04 => some .rsr
  | 0x05 => some .page
  | 0x06 => some (.port .port6)
  | 0x07 => some (.port .port7)
  | 0x08 => some (.port .port8)
  | 0x09 => some (.port .port9)
  | 0x0A => some .ra
  | 0x0B => some .rb
  | 0x0C => some .rc
  | 0x0D => some .rd
  | 0x0E => some .re
  | 0x0F => some .rf
  | 0x10 => some .r10
  | 0x11 => some .r11
  | 0x12 => some .r12
  | n => some (.gpr (gprKey s.cfg.bankSplit (s.r4.extractLsb' 6 2) n))

/-- The cell an operand `r` names, refused through R0 with pointer 0 (R103, R105). -/
def resolve (r : Designator) (s : State) : Host.Outcome Cell Fault Refusal :=
  match cellOf (effective r s) s with
  | some c => .next c
  | none => .refused .indirectPointerZero

/-- The data ROM address `RD[4:0] : RC : RB` (R108). -/
def State.dromAddress (s : State) : Nat := (s.rd ++ s.rc ++ s.rb).toNat

/-- The LCD RAM address `R11[3:0] : R10` (R109). -/
def State.lcdAddress (s : State) : Nat := (s.r11 ++ s.r10).toNat

/-- A read before its open bits are drawn: the bits the state gives, and which bits the spec leaves open
at every read (R36, R39, R46, R378; U12, U16, U17). -/
def peekCell (c : Cell) (s : State) : Host.Outcome (Byte × Byte) Fault Refusal :=
  match c with
  | .tcc => .next (s.tcc, 0#8)
  | .pcl => .next (s.pcl, 0#8)
  | .status => .next (s.r3, 0x20#8)
  | .rsr => .next (s.r4, 0#8)
  | .page => .next (s.r5.setWidth 8, 0xE0#8)
  | .port p => .next (s.pinLevel p, s.floatingPins p)
  | .ra => .next (BitVec.ofBool s.lpd ++ s.ra, if s.lpdEnabled then 0#8 else 0x80#8)
  | .rb => .next (s.rb, 0#8)
  | .rc => .next (s.rc, 0#8)
  | .rd => .next (s.rd.setWidth 8, 0#8)
  | .re => .next (s.mem.dromRead s.dromAddress, 0#8)
  | .rf => .next (s.rf.setWidth 8, 0#8)
  | .r10 => .next (s.r10, 0#8)
  | .r11 => .next (s.r11.setWidth 8, 0#8)
  | .r12 =>
    if s.lcdAddress < s.cfg.lcdSize.val then
      .next (s.mem.lcdRead s.lcdAddress, if s.cfg.lcdReadsBack then 0#8 else 0xFF#8)
    else .fault (.lcdCellAbsent s.lcdAddress)
  | .gpr k => .next (s.mem.ramRead k, 0#8)

/-- `known`, with the bits of `opened` taken from `free`. -/
def mixBits (known opened free : Byte) : Byte := (known &&& ~~~opened) ||| (free &&& opened)

/-- `x[r]`: the cell's value and the state after the read. Its open bits are drawn where the reader's result
depends on one of them, `care` being the bits it depends on (notes/assumptions/23.md). No other read changes the
state (R115). -/
def readCell (care : Byte) (c : Cell) (s : State) : Host.Outcome (Byte × State) Fault Refusal :=
  andThen (peekCell c s) fun p =>
    if p.2 &&& care = 0#8 then .next (p.1, s)
    else .next (mixBits p.1 p.2 (s.freeByte 0), s.drew 1)

/-- Every bit of the value matters to the reader. -/
def allBits : Byte := 0xFF#8

/-- The bits of the cell that a write can change; for a read that only writes its value back, no other bit
matters (R36, R39, R46). -/
def keptBits : Cell → Byte
  | .status => 0xDF#8
  | .page => 0x1F#8
  | .ra => 0x7F#8
  | _ => 0xFF#8

/-- The bits of R3 that a store writes: 7, 6, 2, 1, 0, and T, P where `R3_TP_WRITABLE` (R37). -/
def State.statusMask (s : State) : Byte := if s.cfg.r3TpWritable then 0xDF#8 else 0xC7#8

/-- `x[r] <- v` with the side effects of rule R106. -/
def writeCell (c : Cell) (v : Byte) (s : State) : Answer :=
  match c with
  | .tcc => .next { s with tcc := v, pre := 0#8 }
  | .pcl => .refused .programCounterDestination
  | .status => .next (s.setStatus (mixBits s.r3 s.statusMask v))
  | .rsr => .next { s with r4 := v }
  | .page => .next (s.setPage (v.setWidth 5))
  | .port p => .next (s.setPort p { s.port p with latch := v })
  | .ra => .next { s with ra := v.setWidth 7 }
  | .rb => .next { s with rb := v }
  | .rc => .next { s with rc := v }
  | .rd => .next { s with rd := v.setWidth 5 }
  | .re => .refused .dataRomWrite
  | .rf => .next (s.setRf (s.rf &&& v.setWidth 7))
  | .r10 => .next { s with r10 := v }
  | .r11 => .next { s with r11 := v.setWidth 4 }
  | .r12 =>
    if s.lcdAddress < s.cfg.lcdSize.val then .next (s.setMem (s.mem.lcdWrite s.lcdAddress v))
    else .fault (.lcdCellAbsent s.lcdAddress)
  | .gpr k => .next (s.setMem (s.mem.ramWrite k v))

/-! ### Control registers (R107) -/

/-- `ioc[r]`: the value IOR reads. -/
def iocRead (r : IocNumber) (s : State) : Host.Outcome Byte Fault Refusal :=
  match r.toNat with
  | 0x6 => .next s.p6.dir
  | 0x7 => .next s.p7.dir
  | 0x8 => .next s.p8.dir
  | 0x9 => .next s.p9.dir
  | 0xA => .next (s.ioca ++ 0#4)
  | 0xB => .next (if s.iocPage then s.cnt1 else s.iocb)
  | 0xC => .next (if s.iocPage then s.cnt2 else s.iocc)
  | 0xD => if s.iocPage then .refused .controlPageAbsent else .next s.iocd
  | 0xE => if s.iocPage then .refused .controlPageAbsent else .next (s.ioce.setWidth 8)
  | 0xF => .next (s.iocf.setWidth 8)
  | _ => .refused .controlRegisterAbsent

/-- COUNTER1 preset (R371); what becomes of `CPRE1` is left open (U26, notes/assumptions/25.md). -/
def State.presetCounter1 (s : State) (v : Byte) : State :=
  State.drew { s with cnt1 := v, cpre1 := (s.freeByte 0).setWidth 3 } 1

/-- `ioc[r] <- v`: always-zero bits ignore the write (R67, R73, R74). -/
def iocWrite (r : IocNumber) (v : Byte) (s : State) : Answer :=
  match r.toNat with
  | 0x6 => .next { s with p6 := { s.p6 with dir := v } }
  | 0x7 => .next { s with p7 := { s.p7 with dir := v } }
  | 0x8 => .next { s with p8 := { s.p8 with dir := v } }
  | 0x9 => .next { s with p9 := { s.p9 with dir := v } }
  | 0xA => .next { s with ioca := v.extractLsb' 4 4 }
  | 0xB => .next (if s.iocPage then s.presetCounter1 v else { s with iocb := v })
  | 0xC => .next (if s.iocPage then { s with cnt2 := v } else { s with iocc := v })
  | 0xD => if s.iocPage then .refused .controlPageAbsent else .next { s with iocd := v }
  | 0xE => if s.iocPage then .refused .controlPageAbsent else .next { s with ioce := v.setWidth 2 }
  | 0xF => .next { s with iocf := v.setWidth 7 }
  | _ => .refused .controlRegisterAbsent

/-- The unused bits of CONT, open at every read (R65, U12). -/
def contOpenBits : Byte := 0xD0#8

/-- The bits of CONT that say which unit has the prescaler and at which ratio, PAB and PSR2 to PSR0. -/
def prescalerBits (cont : Byte) : BitVec 4 := cont.setWidth 4

/-- `CONT <- v` (R181). The prescaler's count is kept, but it is open where the write changes its assignment or
ratio (R181, U11, notes/assumptions/24.md). -/
def State.writeCont (s : State) (v : Byte) : State :=
  if prescalerBits v = prescalerBits s.cont then s.setCont v
  else ((s.setCont v).setPre (s.freeByte 0)).drew 1

/-! ### The shapes of the register instructions

In each, operands are read before any result is written, and the cell is resolved first (R105). -/

/-- `A <- f(x[r])` with the flags of `f`, then `pc <- next`. -/
def resultToA (r : Designator) (f : Byte → Alu) (s : State) : Answer :=
  andThen (resolve r s) fun c =>
  andThen (readCell allBits c s) fun p =>
  advance ((p.2.setStatus ((f p.1).status p.2.r3)).setA (f p.1).val)

/-- `x[r] <- f(x[r])` with the flags of `f` on a resolved cell: R3 is refused (R37), then `pc <- next`. -/
def resultToCell (c : Cell) (f : Byte → Alu) (s : State) : Answer :=
  if c = .status then .refused .statusDestination
  else
    andThen (readCell allBits c s) fun p =>
    andThen (writeCell c (f p.1).val p.2) fun t =>
    advance (t.setStatus ((f p.1).status t.r3))

/-- `x[r] <- f(x[r])` with the flags of `f`. -/
def resultToR (r : Designator) (f : Byte → Alu) (s : State) : Answer :=
  andThen (resolve r s) fun c => resultToCell c f s

/-- `x[r] <- f(x[r])` with no flag affected (R3 allowed, R37), then `pc <- next`; `care` are the bits of the
operand that the result depends on. -/
def modifyR (r : Designator) (care : Cell → Byte) (f : Byte → Byte) (s : State) : Answer :=
  andThen (resolve r s) fun c =>
  andThen (readCell (care c) c s) fun p =>
  andThen (writeCell c (f p.1) p.2) advance

/-- `A <- f(x[r])`, skip if zero, no flag (R288, R290). -/
def countToA (r : Designator) (f : Byte → Byte) (s : State) : Answer :=
  andThen (resolve r s) fun c =>
  andThen (readCell allBits c s) fun p =>
  skipIf (isZero (f p.1)) (p.2.setA (f p.1))

/-- `x[r] <- f(x[r])`, skip if zero, no flag (R289, R291). -/
def countToR (r : Designator) (f : Byte → Byte) (s : State) : Answer :=
  andThen (resolve r s) fun c =>
  andThen (readCell allBits c s) fun p =>
  andThen (writeCell c (f p.1) p.2) (skipIf (isZero (f p.1)))

/-- Skip on one bit of `x[r]` (R286, R287). -/
def skipOnBit (r : Designator) (b : BitNumber) (wanted : Bool) (s : State) : Answer :=
  andThen (resolve r s) fun c =>
  andThen (readCell (1#8 <<< b.toNat) c s) fun p =>
  skipIf (p.1.getLsbD b.toNat == wanted) p.2

/-- A literal instruction: `A <- f(A)` with the flags of `f`, then `pc <- next`. -/
def literalToA (x : Alu) (s : State) : Answer :=
  advance ((s.setStatus (x.status s.r3)).setA x.val)

end Sys2Proof.Machine
end

