-- ==== Sys2Proof/Machine/Arith.lean ====
section
/-! DEFINITION. The meanings of the arithmetic and logic instructions (spec/42_arith_logic.md). -/

namespace Sys2Proof.Machine

/-- DAA (R223). -/
def execDaa (s : State) : Answer := literalToA (daaAlu s.cfg.daaDefault s.a s.flagC s.flagDC) s

/-- SUB A,R: the register is the minuend (R224). -/
def execSubAR (r : Designator) (s : State) : Answer :=
  resultToA r (fun m => subAlu s.cfg.subCIsNotBorrow m s.a) s

/-- SUB R,A (R225). -/
def execSubRA (r : Designator) (s : State) : Answer :=
  resultToR r (fun m => subAlu s.cfg.subCIsNotBorrow m s.a) s

/-- SUB A,k: the literal is the minuend (R226). -/
def execSubAK (k : Byte) (s : State) : Answer := literalToA (subAlu s.cfg.subCIsNotBorrow k s.a) s

/-- ADD A,R (R227). -/
def execAddAR (r : Designator) (s : State) : Answer := resultToA r (addAlu s.a) s

/-- ADD R,A; with the destination R2 it is a computed jump (R228, R299). -/
def execAddRA (r : Designator) (s : State) : Answer :=
  andThen (resolve r s) fun c =>
  if c = .pcl then
    .next ((s.setStatus ((addAlu s.pcl s.a).status s.r3)).setPc (s.computedTarget (addAlu s.pcl s.a).val))
  else resultToCell c (addAlu s.a) s

/-- ADD A,k (R229). -/
def execAddAK (k : Byte) (s : State) : Answer := literalToA (addAlu s.a k) s

/-- OR A,R (R230). -/
def execOrAR (r : Designator) (s : State) : Answer := resultToA r (fun v => zeroAlu (s.a ||| v)) s

/-- OR R,A (R231). -/
def execOrRA (r : Designator) (s : State) : Answer := resultToR r (fun v => zeroAlu (s.a ||| v)) s

/-- OR A,k (R232). -/
def execOrAK (k : Byte) (s : State) : Answer := literalToA (zeroAlu (s.a ||| k)) s

/-- AND A,R (R233). -/
def execAndAR (r : Designator) (s : State) : Answer := resultToA r (fun v => zeroAlu (s.a &&& v)) s

/-- AND R,A (R234). -/
def execAndRA (r : Designator) (s : State) : Answer := resultToR r (fun v => zeroAlu (s.a &&& v)) s

/-- AND A,k (R235). -/
def execAndAK (k : Byte) (s : State) : Answer := literalToA (zeroAlu (s.a &&& k)) s

/-- XOR A,R (R236). -/
def execXorAR (r : Designator) (s : State) : Answer := resultToA r (fun v => zeroAlu (s.a ^^^ v)) s

/-- XOR R,A (R237). -/
def execXorRA (r : Designator) (s : State) : Answer := resultToR r (fun v => zeroAlu (s.a ^^^ v)) s

/-- XOR A,k (R238). -/
def execXorAK (k : Byte) (s : State) : Answer := literalToA (zeroAlu (s.a ^^^ k)) s

/-- DECA R (R239). -/
def execDecaR (r : Designator) (s : State) : Answer := resultToA r (fun v => zeroAlu (v - 1#8)) s

/-- DEC R (R240). -/
def execDecR (r : Designator) (s : State) : Answer := resultToR r (fun v => zeroAlu (v - 1#8)) s

/-- INCA R (R241). -/
def execIncaR (r : Designator) (s : State) : Answer := resultToA r (fun v => zeroAlu (v + 1#8)) s

/-- INC R (R242). -/
def execIncR (r : Designator) (s : State) : Answer := resultToR r (fun v => zeroAlu (v + 1#8)) s

/-- COMA R (R243). -/
def execComaR (r : Designator) (s : State) : Answer := resultToA r (fun v => zeroAlu (~~~v)) s

/-- COM R: Z is of the computed result, not of what the register keeps (R244). -/
def execComR (r : Designator) (s : State) : Answer := resultToR r (fun v => zeroAlu (~~~v)) s

end Sys2Proof.Machine
end

