-- ==== Sys2Proof/Machine/Control.lean ====
section
/-! DEFINITION. The meanings of the control transfer instructions (spec/44_control_transfer.md). MOV R2,A and
ADD R2,A are forms of MOV R,A and ADD R,A, in Move.lean and Arith.lean. -/

namespace Sys2Proof.Machine

/-- JMP k (R280). -/
def execJmp (k : BitVec 10) (s : State) : Answer := .next (s.setPc (s.pageTarget k))

/-- CALL k (R281). -/
def execCall (k : BitVec 10) (s : State) : Answer :=
  andThen (pushNext s) fun t => .next (t.setPc (s.pageTarget k))

/-- RET (R282). -/
def execRet (s : State) : Answer := returnToTop s

/-- RETL k (R283). -/
def execRetl (k : Byte) (s : State) : Answer := andThen (returnToTop s) fun t => .next (t.setA k)

/-- RETI: return, and `IE <- 1` (R284, R337). -/
def execReti (s : State) : Answer := andThen (returnToTop s) fun t => .next (t.setIe true)

/-- TBL: the 256-word block is kept, the carry goes to C only (R285). -/
def execTbl (s : State) : Answer :=
  .next ((s.setStatus ((addAlu s.pcl s.a).status s.r3)).setPc (s.tableTarget (addAlu s.pcl s.a).val))

/-- JBC R,b: skip if the bit is 0 (R286). -/
def execJbc (r : Designator) (b : BitNumber) (s : State) : Answer := skipOnBit r b false s

/-- JBS R,b: skip if the bit is 1 (R287). -/
def execJbs (r : Designator) (b : BitNumber) (s : State) : Answer := skipOnBit r b true s

/-- DJZA R (R288). -/
def execDjzaR (r : Designator) (s : State) : Answer := countToA r (fun v => v - 1#8) s

/-- DJZ R (R289). -/
def execDjzR (r : Designator) (s : State) : Answer := countToR r (fun v => v - 1#8) s

/-- JZA R (R290). -/
def execJzaR (r : Designator) (s : State) : Answer := countToA r (fun v => v + 1#8) s

/-- JZ R (R291). -/
def execJzR (r : Designator) (s : State) : Answer := countToR r (fun v => v + 1#8) s

end Sys2Proof.Machine
end

