-- ==== Sys2Proof/Machine/Move.lean ====
section
/-! DEFINITION. The meanings of the move, clear and swap instructions (spec/41_move.md). -/

namespace Sys2Proof.Machine

/-- MOV R,A; with the destination R2 it is a jump (R200, R298). -/
def execMovRA (r : Designator) (s : State) : Answer :=
  andThen (resolve r s) fun c =>
  if c = .pcl then .next (s.setPc (s.computedTarget s.a))
  else andThen (writeCell c s.a s) advance

/-- MOV A,R (R201). -/
def execMovAR (r : Designator) (s : State) : Answer := resultToA r zeroAlu s

/-- MOV R,R: the value is written back, with the side effects of the write (R202). -/
def execMovRR (r : Designator) (s : State) : Answer := resultToR r zeroAlu s

/-- MOV A,k (R203). -/
def execMovAK (k : Byte) (s : State) : Answer := literalToA { val := k } s

/-- CLRA (R204). -/
def execClra (s : State) : Answer := literalToA (zeroAlu 0#8) s

/-- CLR R: written without being read; R3 is refused because Z is affected (R205, R37). -/
def execClrR (r : Designator) (s : State) : Answer :=
  andThen (resolve r s) fun c =>
  if c = .status then .refused .statusDestination
  else andThen (writeCell c 0#8 s) fun t => advance (t.setStatus ((zeroAlu 0#8).status t.r3))

/-- SWAPA R (R206). -/
def execSwapaR (r : Designator) (s : State) : Answer := resultToA r (fun v => { val := swapNibbles v }) s

/-- SWAP R (R207). -/
def execSwapR (r : Designator) (s : State) : Answer := modifyR r (fun _ => allBits) swapNibbles s

end Sys2Proof.Machine
end

