-- ==== Sys2Proof/Machine/RotateBit.lean ====
section
/-! DEFINITION. The meanings of the rotate and bit instructions (spec/43_rotate_bit.md). -/

namespace Sys2Proof.Machine

/-- RRCA R (R260). -/
def execRrcaR (r : Designator) (s : State) : Answer := resultToA r (rotateRight s.flagC) s

/-- RRC R (R261). -/
def execRrcR (r : Designator) (s : State) : Answer := resultToR r (rotateRight s.flagC) s

/-- RLCA R (R262). -/
def execRlcaR (r : Designator) (s : State) : Answer := resultToA r (rotateLeft s.flagC) s

/-- RLC R (R263). -/
def execRlcR (r : Designator) (s : State) : Answer := resultToR r (rotateLeft s.flagC) s

/-- BC R,b: a read-modify-write of the whole register; R3 allowed (R264). -/
def execBc (r : Designator) (b : BitNumber) (s : State) : Answer :=
  modifyR r keptBits (putBit b.toNat false) s

/-- BS R,b (R265). -/
def execBs (r : Designator) (b : BitNumber) (s : State) : Answer :=
  modifyR r keptBits (putBit b.toNat true) s

end Sys2Proof.Machine
end

