-- ==== Sys2Proof/Machine/System.lean ====
section
/-! DEFINITION. The meanings of the system and control-register instructions (spec/40_system.md). -/

namespace Sys2Proof.Machine

/-- NOP (R180). -/
def execNop (s : State) : Answer := advance s

/-- CONTW (R181). -/
def execContw (s : State) : Answer := advance (s.writeCont s.a)

/-- CONTR: the unused bits read as a free value; Z is not affected (R182, R65). -/
def execContr (s : State) : Answer :=
  advance ((s.setA (mixBits s.cont contOpenBits (s.freeByte 0))).drew 1)

/-- IOW R (R183). -/
def execIow (r : IocNumber) (s : State) : Answer := andThen (iocWrite r s.a s) advance

/-- IOR R (R184). -/
def execIor (r : IocNumber) (s : State) : Answer := andThen (iocRead r s) fun v => advance (s.setA v)

/-- SLEP: clears the watchdog, T = 1, P = 0, and the CPU is idle after it (R185, R352). -/
def execSlep (s : State) : Answer :=
  andThen (advance (s.clearWdt.setStatus (statusTP true false s.r3))) fun t => .next (t.setRun .idle)

/-- WDTC (R186). -/
def execWdtc (s : State) : Answer := advance (s.clearWdt.setStatus (statusTP true true s.r3))

/-- ENI (R187). -/
def execEni (s : State) : Answer := advance (s.setIe true)

/-- DISI (R188). -/
def execDisi (s : State) : Answer := advance (s.setIe false)

/-- INT: a call of 0x0001; `IE` is left unchanged (R189). -/
def execInt (s : State) : Answer := andThen (pushNext s) fun t => .next (t.setPc 0x0001#15)

/-- PAGE k: R5[3:0] only (R190). -/
def execPage (k : BitVec 4) (s : State) : Answer := advance (s.setPage (s.r5.extractLsb' 4 1 ++ k))

end Sys2Proof.Machine
end

