-- ==== Sys2Proof/Machine/Dispatch.lean ====
section
/-! DEFINITION. What each instruction does: one arm per constructor, in the order of spec/opcode_table.json. -/

namespace Sys2Proof.Machine

def exec (i : Instr) (s : State) : Host.Outcome State Fault Refusal :=
  match i with
  | .nop => Sys2Proof.Machine.execNop s
  | .daa => Sys2Proof.Machine.execDaa s
  | .contw => Sys2Proof.Machine.execContw s
  | .slep => Sys2Proof.Machine.execSlep s
  | .wdtc => Sys2Proof.Machine.execWdtc s
  | .iow r => Sys2Proof.Machine.execIow r s
  | .eni => Sys2Proof.Machine.execEni s
  | .disi => Sys2Proof.Machine.execDisi s
  | .ret => Sys2Proof.Machine.execRet s
  | .reti => Sys2Proof.Machine.execReti s
  | .contr => Sys2Proof.Machine.execContr s
  | .ior r => Sys2Proof.Machine.execIor r s
  | .tbl => Sys2Proof.Machine.execTbl s
  | .movRA r => Sys2Proof.Machine.execMovRA r s
  | .clra => Sys2Proof.Machine.execClra s
  | .clrR r => Sys2Proof.Machine.execClrR r s
  | .subAR r => Sys2Proof.Machine.execSubAR r s
  | .subRA r => Sys2Proof.Machine.execSubRA r s
  | .decaR r => Sys2Proof.Machine.execDecaR r s
  | .decR r => Sys2Proof.Machine.execDecR r s
  | .orAR r => Sys2Proof.Machine.execOrAR r s
  | .orRA r => Sys2Proof.Machine.execOrRA r s
  | .andAR r => Sys2Proof.Machine.execAndAR r s
  | .andRA r => Sys2Proof.Machine.execAndRA r s
  | .xorAR r => Sys2Proof.Machine.execXorAR r s
  | .xorRA r => Sys2Proof.Machine.execXorRA r s
  | .addAR r => Sys2Proof.Machine.execAddAR r s
  | .addRA r => Sys2Proof.Machine.execAddRA r s
  | .movAR r => Sys2Proof.Machine.execMovAR r s
  | .movRR r => Sys2Proof.Machine.execMovRR r s
  | .comaR r => Sys2Proof.Machine.execComaR r s
  | .comR r => Sys2Proof.Machine.execComR r s
  | .incaR r => Sys2Proof.Machine.execIncaR r s
  | .incR r => Sys2Proof.Machine.execIncR r s
  | .djzaR r => Sys2Proof.Machine.execDjzaR r s
  | .djzR r => Sys2Proof.Machine.execDjzR r s
  | .rrcaR r => Sys2Proof.Machine.execRrcaR r s
  | .rrcR r => Sys2Proof.Machine.execRrcR r s
  | .rlcaR r => Sys2Proof.Machine.execRlcaR r s
  | .rlcR r => Sys2Proof.Machine.execRlcR r s
  | .swapaR r => Sys2Proof.Machine.execSwapaR r s
  | .swapR r => Sys2Proof.Machine.execSwapR r s
  | .jzaR r => Sys2Proof.Machine.execJzaR r s
  | .jzR r => Sys2Proof.Machine.execJzR r s
  | .bc r b => Sys2Proof.Machine.execBc r b s
  | .bs r b => Sys2Proof.Machine.execBs r b s
  | .jbc r b => Sys2Proof.Machine.execJbc r b s
  | .jbs r b => Sys2Proof.Machine.execJbs r b s
  | .call k => Sys2Proof.Machine.execCall k s
  | .jmp k => Sys2Proof.Machine.execJmp k s
  | .movAK k => Sys2Proof.Machine.execMovAK k s
  | .orAK k => Sys2Proof.Machine.execOrAK k s
  | .andAK k => Sys2Proof.Machine.execAndAK k s
  | .xorAK k => Sys2Proof.Machine.execXorAK k s
  | .retl k => Sys2Proof.Machine.execRetl k s
  | .subAK k => Sys2Proof.Machine.execSubAK k s
  | .int => Sys2Proof.Machine.execInt s
  | .page k => Sys2Proof.Machine.execPage k s
  | .addAK k => Sys2Proof.Machine.execAddAK k s

end Sys2Proof.Machine
end

