-- ==== Sys2Proof/Machine/Events.lean ====
section
/-! DEFINITION. The environment's and the peripherals' events (spec/60_exceptions.md rules R322 to R324, R350 to
R390) and reset (spec/70_reset_and_hazards.md rules R400 to R403). An event whose guard does not hold does
not occur: it leaves the state as it is. -/

namespace Sys2Proof.Machine

/-! ### Fields the events read -/

/-- CONT.TS: the TCC counts 16.38KHz (R64). -/
def State.tccOnSubClock (s : State) : Bool := s.cont.getLsbD 5

/-- CONT.PSR as a number (R62). -/
def State.prescalerSelect (s : State) : Nat := (s.cont.extractLsb' 0 3).toNat

/-- RA bit 3: the watchdog is enabled (R43). -/
def State.wdtEnabled (s : State) : Bool := s.ra.getLsbD 3

/-- RA bit 6 with the CPU running: normal mode, the only one with the main clock on (R3, R350). -/
def State.mainClockOn (s : State) : Bool := decide (s.run = .running) && s.ra.getLsbD 6

/-! ### Wake-up -/

/-- A wake-up: the CPU runs on from the instruction after SLEP; whether one instruction goes before a pending
interrupt is left open (R353, R358, D28; notes/assumptions/13.md). -/
def State.wake (s : State) : State := ((s.setRun .running).setHold ((s.freeByte 0).getLsbD 0)).drew 1

/-! ### TCC (R360 to R364) -/

/-- TCC overflow: the flag under its mask, and the wake-up from idle (R354, R364). -/
def State.tccOverflow (s : State) : State :=
  let t := s.raise 0x01#7
  if t.run = .idle ∧ t.tccOnSubClock ∧ t.iocf.getLsbD 0 then t.wake else t

/-- One count of the TCC (R363). -/
def State.tccCount (s : State) : State :=
  if s.tcc = 0xFF#8 then State.tccOverflow { s with tcc := 0#8 } else { s with tcc := s.tcc + 1#8 }

/-- The guard of a TCC tick: its source runs, and the machine is not held in reset (R390, D26). -/
def State.tccClocked (s : State) : Bool :=
  !s.resetLow && (s.tccOnSubClock || decide (s.run = .running))

/-- One tick of the TCC's source, through the prescaler when that is the TCC's (R363). -/
def State.tccTick (s : State) : State :=
  if s.prescalerOnWdt then s.tccCount
  else
    let t := s.setPre (s.pre + 1#8)
    if t.pre.toNat % 2 ^ (t.prescalerSelect + 1) = 0 then t.tccCount else t

/-! ### COUNTER1 and COUNTER2 (R370 to R373) -/

/-- The guard of a COUNTER1 tick: IOCA bit 6 chooses its source (R370). -/
def State.counter1Clocked (s : State) : Bool := !s.resetLow && (!s.ioca.getLsbD 2 || s.mainClockOn)

/-- The guard of a COUNTER2 tick: IOCA bit 7 chooses its source (R370). -/
def State.counter2Clocked (s : State) : Bool := !s.resetLow && (!s.ioca.getLsbD 3 || s.mainClockOn)

/-- One period of COUNTER1's source, through its prescaler 1 : 2^m, m = IOCA[5:4] (R372, R373). -/
def State.counter1Tick (s : State) : State :=
  let t : State := { s with cpre1 := s.cpre1 + 1#3 }
  if t.cpre1.toNat % 2 ^ (t.ioca.extractLsb' 0 2).toNat = 0 then
    if t.cnt1 = 0xFF#8 then State.raise { t with cnt1 := 0#8 } 0x20#7 else { t with cnt1 := t.cnt1 + 1#8 }
  else t

/-- One period of COUNTER2's source (R372, R373). -/
def State.counter2Tick (s : State) : State :=
  if s.cnt2 = 0xFF#8 then State.raise { s with cnt2 := 0#8 } 0x40#7 else { s with cnt2 := s.cnt2 + 1#8 }

/-! ### Pins and detector -/

/-- A port after the outside changes what it does to one pin (R390). -/
def Port.drive (p : Port) (i : Fin 8) : PinDrive → Port
  | .driven l => { p with ext := putBit i.val l p.ext, driven := putBit i.val true p.driven }
  | .floating l => { p with ext := putBit i.val l p.ext, driven := putBit i.val false p.driven }

/-- The wake-up by a high-to-low edge on P9.0 to P9.2 whose RA bit is 1 (R355). -/
def wakeOnPort9 (before after : State) : State :=
  if after.run = .idle ∧ (fallenPins before after .port9).setWidth 3 &&& after.ra.setWidth 3 ≠ 0#3 then after.wake
  else after

/-- A pin change with the edges it makes (R322, R355, R390). -/
def State.pinChange (s : State) (p : PortId) (i : Fin 8) (d : PinDrive) : State :=
  wakeOnPort9 s (recordEdges s (s.setPort p ((s.port p).drive i d)))

/-- The low-power detector: set below 2.2 V, cleared above 2.4 V, kept between (R46, R380). -/
def State.supplyChange (s : State) : Supply → State
  | .below22 => { s with vdd := .below22, lpd := true }
  | .between => { s with vdd := .between }
  | .above24 => { s with vdd := .above24, lpd := false }

/-! ### Reset (R400 to R403) -/

/-- The causes of a reset event (R400). -/
inductive ResetCause where
  | supply
  | watchdog
  | pin
deriving DecidableEq, Repr

/-- T and P after a reset, by its cause (R85, R400); after a low pulse on /RESET while running they are open
(U15). -/
def resetTP (c : ResetCause) (s : State) : Bool × Bool :=
  match c with
  | .supply => (true, true)
  | .watchdog => (false, true)
  | .pin =>
    match s.run with
    | .idle => (true, false)
    | .running => ((s.freeByte 10).getLsbD 4, (s.freeByte 10).getLsbD 3)

/-- R3 after a reset: bits 7, 6 are cleared at power-on only, T and P by the cause, the rest open (R83, R86,
R402). -/
def resetStatus (c : ResetCause) (s : State) : Byte :=
  statusTP (resetTP c s).1 (resetTP c s).2
    (s.freeByte 2 &&& (if c = .supply then 0x07#8 else 0xC7#8))

/-- R4 after a reset: bits 7, 6 are cleared at power-on only, the rest is open (R83, R86). -/
def resetRsr (c : ResetCause) (s : State) : Byte :=
  s.freeByte 3 &&& (if c = .supply then 0x3F#8 else 0xFF#8)

/-- A port after a reset: all pins inputs, the latch open, the outside as it was (R84, R86). -/
def Port.afterReset (p : Port) (latch : Byte) : Port := { p with latch := latch, dir := 0xFF#8 }

/-- One reset event (R402): what the list sets is set, everything else is drawn anew and then held (R86,
D25). The outside, the parameters and the agenda are not the chip's and stay; LPD follows the
supply (R84, R380, notes/assumptions/26.md). -/
def resetEvent (c : ResetCause) (s : State) : State :=
  { s with
    pc := 0#15
    run := .running
    irqHold := false
    wdt := 0
    pre := 0#8
    cont := 0xFF#8
    r5 := 0#5
    ra := 0#7
    lpd := decide (s.vdd = .below22)
    rb := 0#8
    rc := 0#8
    rd := 0#5
    rf := 0#7
    r10 := 0#8
    r11 := 0#4
    ioca := 0#4
    iocb := 0#8
    cnt1 := 0#8
    iocc := 0#8
    cnt2 := 0#8
    iocd := 0#8
    ioce := 0#2
    iocf := 0#7
    stack := []
    r3 := resetStatus c s
    r4 := resetRsr c s
    a := s.freeByte 0
    tcc := s.freeByte 1
    ie := (s.freeByte 4).getLsbD 0
    cpre1 := (s.freeByte 5).setWidth 3
    p6 := s.p6.afterReset (s.freeByte 6)
    p7 := s.p7.afterReset (s.freeByte 7)
    p8 := s.p8.afterReset (s.freeByte 8)
    p9 := s.p9.afterReset (s.freeByte 9)
    mem := s.mem.afterReset
    draws := s.draws + 11 }

/-- The /RESET pin: going low resets and holds the machine, going high lets it run (R400, D26). -/
def State.resetPinChange (s : State) (low : Bool) : State :=
  if low then
    if s.resetLow then s else { resetEvent .pin s with resetLow := true }
  else { s with resetLow := false }

/-! ### Watchdog (R366 to R369) -/

/-- The guard of the time-out: enabled, and `WDT_MIN_STEPS` steps since the last clear (R368, R390), of which
the turns of an idle CPU are counted too (DESIGN CHOICE, notes/assumptions/29.md). -/
def State.wdtMayExpire (s : State) : Bool := s.wdtEnabled && decide (s.cfg.wdtMinSteps ≤ s.wdt)

/-- The time-out: a reset of the running CPU, the wake-up of the idle one with T = 0, P = 0 (R356, R367). -/
def State.watchdogTimeout (s : State) : State :=
  match s.run with
  | .running => resetEvent .watchdog s
  | .idle => (s.setStatus (statusTP false false s.r3)).wake

/-! ### One event -/

/-- The state after an event, its guard examined (R390). -/
def occur (e : Event) (s : State) : State :=
  match e with
  | .tccTick => if s.tccClocked then s.tccTick else s
  | .watchdog => if s.wdtMayExpire then s.watchdogTimeout else s
  | .counter1Tick => if s.counter1Clocked then s.counter1Tick else s
  | .counter2Tick => if s.counter2Clocked then s.counter2Tick else s
  | .pin p i d => s.pinChange p i d
  | .supply v => s.supplyChange v
  | .supplyReset c => if c = s.cfg.resetSource then resetEvent .supply s else s
  | .resetPin low => s.resetPinChange low

end Sys2Proof.Machine
end

