-- ==== Sys2Proof/Machine/Turn.lean ====
section
/-! DEFINITION. One turn: of the CPU, an instruction or an interrupt entry (spec/00_scope.md rule R12), or of the
environment (spec/60_exceptions.md rule R390). -/

namespace Sys2Proof.Machine

/-- A CPU step begins: the watchdog's step count goes on (R368), and a hold of the interrupt ends with the one
instruction it is for (R358). -/
def State.beginStep (s : State) : State := (s.setWdt (s.wdt + 1)).setHold false

/-- The decoded instruction runs; output pins then follow their latches, and the edges that makes on port 6 are
recorded (R323, R390; notes/assumptions/27.md). -/
def runInstr (i : Instr) (s : State) : Answer :=
  andThen (exec i s.beginStep) fun t => .next (recordEdges s t)

/-- Fetch, decode, run (R12, R24); an unassigned word is refused (R152). -/
def runNext (s : State) : Answer :=
  andThen (fetch s) fun w =>
  match decode w with
  | .instr i => runInstr i s
  | .unassigned v => .refused (.unassignedWord v)

/-- The request is taken at this boundary: it holds, and no wake-up holds it off (R330, R331, R358). -/
def State.takesInterrupt (s : State) : Bool := s.interruptRequested && !s.irqHold

/-- The turn of an idle CPU: it executes nothing (R352), while the watchdog, which is free running, counts on
(R366, R368; notes/assumptions/29.md). -/
def idleTurn (s : State) : State := s.setWdt (s.wdt + 1)

/-- The CPU's turn (R12). Held in reset it does nothing (D26). -/
def cpuTurn (s : State) : Answer :=
  if s.resetLow then .next s
  else
    match s.run with
    | .idle => .next (idleTurn s)
    | .running => if s.takesInterrupt then interruptEntry s.beginStep else runNext s

/-- The turn the agenda gives; with none laid down the CPU moves (R11; notes/assumptions/1.md). -/
def takeTurn (s : State) : Answer :=
  match s.agenda with
  | [] => cpuTurn s
  | .cpu :: rest => cpuTurn (s.setAgenda rest)
  | .event e :: rest => .next (occur e (s.setAgenda rest))

end Sys2Proof.Machine
end

