-- ==== Sys2Proof/Machine/Step.lean ====
section
/-! DEFINITION. The machine's step, and the load of the word it fetches next. -/

namespace Sys2Proof.Machine

/-- One step of the machine: one turn. -/
def step (s : State) : Host.Outcome State Fault Refusal := takeTurn s

/-- The state with the opcode table's word in the program ROM cell at `pc`, where the next step fetches
(R24, R101). A table word that does not fit a 13-bit cell is no word of this machine and loads nothing. -/
def State.withFetchWord (s : State) (nbits w : Nat) : State :=
  match tableWord nbits w with
  | some v => s.setMem (s.mem.romLoad s.pc.toNat v)
  | none => s

end Sys2Proof.Machine
end

