-- ==== Sys2Proof/Machine/Fairness.lean ====
section
/-! DEFINITION. Courses of turns without end and their fairness, the only timing the machine has
(spec/60_exceptions.md rule R390, D23; notes/assumptions/40.md). An agenda holds the turns of a finite part of a
run; a course says who moves at every turn, and a claim that a wait or an idle CPU proceeds assumes it fair. -/

namespace Sys2Proof.Machine

/-- Who moves at each turn. A course is the environment's and no part of `State`. -/
abbrev Course := Nat → Turn

/-- The machine after the first `n` turns of a course, each laid down as the whole agenda. -/
def courseRun (c : Course) (s : State) : Nat → Answer
  | 0 => .next s
  | n + 1 => andThen (courseRun c s n) fun t => step (t.setAgenda [c n])

/-- An event whose guard holds from some turn on happens: again and again the event happens, its guard does not
hold, or the run has stopped (D23). -/
def eventually (guard : State → Bool) (e : Event) (c : Course) (s : State) : Prop :=
  ∀ n, ∃ m, n ≤ m ∧ (c m = .event e ∨ ∀ t, courseRun c s m = .next t → guard t = false)

/-- The watchdog is enabled and a step has passed since its last clear: the turns in which this fails are those in
which it is disabled or was just cleared (R366, R369). -/
def State.wdtRunning (s : State) : Bool := s.wdtEnabled && decide (s.wdt ≠ 0)

/-- The fairness of R390: ticks while their source runs, the watchdog's time-out while it is enabled and no clear
occurs, and the CPU's turn. Pin, supply and reset events are under none. -/
def fair (c : Course) (s : State) : Prop :=
  eventually State.tccClocked .tccTick c s ∧
  eventually State.counter1Clocked .counter1Tick c s ∧
  eventually State.counter2Clocked .counter2Tick c s ∧
  eventually State.wdtRunning .watchdog c s ∧
  ∀ n, ∃ m, n ≤ m ∧ c m = .cpu

end Sys2Proof.Machine
end

