-- ==== Sys2Proof/Safety.lean ====
section
/-! DEFINITION. What counts as a safe run, and the invariant of the machine. -/

namespace Sys2Proof.Machine

/-- The machine goes on for `n` steps without a fault or a refusal. -/
def runsFor (n : Nat) (s : State) : Prop := ∃ t, Sys2Proof.core.run n s = .next t

/-- The stack holds at most its eight levels (R30). -/
abbrev State.stackFits (s : State) : Prop := s.stack.length ≤ 8

/-- The unused bit 5 of R3 is never stored (R36, R37). -/
abbrev State.statusReserved (s : State) : Prop := s.r3.getLsbD 5 = false

/-- While the CPU is idle T and P are as SLEP left them, and the machine is not held in reset: every event that
changes them ends the idle state (R185, R352 to R357). -/
abbrev State.idleConsistent (s : State) : Prop :=
  s.run = .idle → s.flagT = true ∧ s.flagP = false ∧ s.resetLow = false

/-- While /RESET is low the machine is in the state reset left: at address 0, running, the stack empty, no
interrupt flag and none enabled (R402, D26). -/
abbrev State.heldInReset (s : State) : Prop :=
  s.resetLow = true → s.pc = 0#15 ∧ s.run = .running ∧ s.stack = [] ∧ s.rf = 0#7 ∧ s.iocf = 0#7

/-- The invariant that every step keeps. -/
def State.inv (s : State) : Prop :=
  s.mem.wf ∧ s.stackFits ∧ s.statusReserved ∧ s.idleConsistent ∧ s.heldInReset

end Sys2Proof.Machine
end

