-- ==== Sys2Proof/Certificates/Slice0/Obligations.lean ====
section
/-! DEFINITION. The statements for the provers. The names under `Sys2Proof.Claims` are what the statements
speak in; each obligation's docstring gives the rules of spec/ it formalises. -/

namespace Sys2Proof.Claims

open Sys2Proof.Machine

/-! ### Status values, written from rules R220 to R222 -/

/-- R3 with Z by the value of a result (R222). -/
def zStatus (v r3 : Byte) : Byte := if v = 0#8 then r3 ||| 0x04#8 else r3 &&& 0xFB#8

/-- R3 with C given. -/
def cStatus (c : Bool) (r3 : Byte) : Byte := if c then r3 ||| 0x01#8 else r3 &&& 0xFE#8

/-- R3 with DC given. -/
def dcStatus (dc : Bool) (r3 : Byte) : Byte := if dc then r3 ||| 0x02#8 else r3 &&& 0xFD#8

/-- R3 after the addition of two bytes (R220). -/
def addStatus (a b r3 : Byte) : Byte :=
  zStatus (a + b) (dcStatus (decide (15 < a.toNat % 16 + b.toNat % 16)) (cStatus (decide (255 < a.toNat + b.toNat)) r3))

/-- R3 after the subtraction `m - s`, under either value of `SUB_C_IS_NOT_BORROW` (R221). -/
def subStatus (notBorrow : Bool) (m s r3 : Byte) : Byte :=
  zStatus (m - s) (dcStatus (decide (s.toNat % 16 ≤ m.toNat % 16) == notBorrow)
    (cStatus (decide (s.toNat ≤ m.toNat) == notBorrow) r3))

/-- R3 with T and P given (R35). -/
def tpStatus (t p : Bool) (r3 : Byte) : Byte :=
  (r3 &&& 0xE7#8) ||| (if t then 0x10#8 else 0#8) ||| (if p then 0x08#8 else 0#8)

/-! ### Operands -/

/-- The operand `r` names the cell `c` (R103). -/
abbrev names (r : Designator) (s : State) (c : Cell) : Prop := cellOf (effective r s) s = some c

/-- The cell exists: for R12, the LCD RAM byte addressed does (R109). -/
abbrev present (c : Cell) (s : State) : Prop := c = .r12 → s.lcdAddress < s.cfg.lcdSize.val

/-- The byte that R2 reads as, under either value of `R2_READS_NEXT` (R28). -/
def pclByte (s : State) : Byte := BitVec.ofNat 8 (if s.cfg.r2ReadsNext then s.pc.toNat + 1 else s.pc.toNat)

/-- `i` completes with `A <- f(x[r])`, R3 as `st` gives it, and nothing else changed but `pc` (and the count of
free values). -/
def accumulatorGets (i : Instr) (c : Cell) (s : State) (f st : Byte → Byte) : Prop :=
  ∃ v u, readCell allBits c s = .next (v, u) ∧ u = { s with draws := u.draws } ∧
    exec i s = .next { u with a := f v, r3 := st v, pc := s.pc + 1#15 }

/-- `i` completes with `x[r] <- f(x[r])` through the cell's write, R3 as `st` gives it, and `pc` the next. -/
def registerGets (i : Instr) (c : Cell) (s : State) (f st : Byte → Byte) : Prop :=
  ∃ v u w, readCell allBits c s = .next (v, u) ∧ u = { s with draws := u.draws } ∧ writeCell c (f v) u = .next w ∧
    exec i s = .next { w with r3 := st v, pc := s.pc + 1#15 }

/-- `i` completes with `x[r] <- f(x[r])` through the cell's write, no flag affected, and `pc` the next. -/
def registerBecomes (i : Instr) (c : Cell) (s : State) (care : Byte) (f : Byte → Byte) : Prop :=
  ∃ v u w, readCell care c s = .next (v, u) ∧ u = { s with draws := u.draws } ∧ writeCell c (f v) u = .next w ∧
    exec i s = .next { w with pc := s.pc + 1#15 }

/-- The instructions that write their register operand (20_memory.md R114, and MOV R,A and CLR R). -/
def registerDestination (r : Designator) (b : BitNumber) : List Instr :=
  [.movRA r, .clrR r, .subRA r, .decR r, .orRA r, .andRA r, .xorRA r, .addRA r, .movRR r, .comR r, .incR r,
   .djzR r, .rrcR r, .rlcR r, .swapR r, .jzR r, .bc r b, .bs r b]

/-- Those of them that also affect a flag (30_encoding.md R150, "status affected"). -/
def flaggedDestination (r : Designator) : List Instr :=
  [.clrR r, .subRA r, .decR r, .orRA r, .andRA r, .xorRA r, .addRA r, .movRR r, .comR r, .incR r, .rrcR r, .rlcR r]

/-- The instructions that read their register operand and write A or nothing. -/
def registerSource (r : Designator) (b : BitNumber) : List Instr :=
  [.subAR r, .decaR r, .orAR r, .andAR r, .xorAR r, .addAR r, .movAR r, .comaR r, .incaR r, .djzaR r, .rrcaR r,
   .rlcaR r, .swapaR r, .jzaR r, .jbc r b, .jbs r b]

/-- From `s` to `t` nothing changed but the cell `c` (with the prescaler, for the TCC), R3, `pc` and the count of
free values. For a general register and for R12 every other byte of memory reads as before. -/
def onlyCell (c : Cell) (s t : State) : Prop :=
  match c with
  | .tcc => t = { s with tcc := t.tcc, pre := t.pre, r3 := t.r3, pc := t.pc, draws := t.draws }
  | .pcl => t = { s with r3 := t.r3, pc := t.pc, draws := t.draws }
  | .status => t = { s with r3 := t.r3, pc := t.pc, draws := t.draws }
  | .rsr => t = { s with r4 := t.r4, r3 := t.r3, pc := t.pc, draws := t.draws }
  | .page => t = { s with r5 := t.r5, r3 := t.r3, pc := t.pc, draws := t.draws }
  | .port .port6 => t = { s with p6 := { s.p6 with latch := t.p6.latch }, r3 := t.r3, pc := t.pc, draws := t.draws }
  | .port .port7 => t = { s with p7 := { s.p7 with latch := t.p7.latch }, r3 := t.r3, pc := t.pc, draws := t.draws }
  | .port .port8 => t = { s with p8 := { s.p8 with latch := t.p8.latch }, r3 := t.r3, pc := t.pc, draws := t.draws }
  | .port .port9 => t = { s with p9 := { s.p9 with latch := t.p9.latch }, r3 := t.r3, pc := t.pc, draws := t.draws }
  | .ra => t = { s with ra := t.ra, r3 := t.r3, pc := t.pc, draws := t.draws }
  | .rb => t = { s with rb := t.rb, r3 := t.r3, pc := t.pc, draws := t.draws }
  | .rc => t = { s with rc := t.rc, r3 := t.r3, pc := t.pc, draws := t.draws }
  | .rd => t = { s with rd := t.rd, r3 := t.r3, pc := t.pc, draws := t.draws }
  | .re => False
  | .rf => t = { s with rf := t.rf, r3 := t.r3, pc := t.pc, draws := t.draws }
  | .r10 => t = { s with r10 := t.r10, r3 := t.r3, pc := t.pc, draws := t.draws }
  | .r11 => t = { s with r11 := t.r11, r3 := t.r3, pc := t.pc, draws := t.draws }
  | .r12 =>
    t = { s with mem := { s.mem with lcd := t.mem.lcd }, r3 := t.r3, pc := t.pc, draws := t.draws } ∧
      ∀ k, k ≠ s.lcdAddress → t.mem.lcdRead k = s.mem.lcdRead k
  | .gpr key =>
    t = { s with mem := { s.mem with ram := t.mem.ram }, r3 := t.r3, pc := t.pc, draws := t.draws } ∧
      ∀ k, k ≠ key → t.mem.ramRead k = s.mem.ramRead k

/-! ### Pin levels, written from rules R40, R81 and R378 -/

/-- The level of pin P6.j: an output's is its latch bit; an input's is what the outside drives, 1 where only the
pull-high acts, and where it floats the environment's (notes/assumptions/27.md). -/
def level6 (s : State) (j : Nat) : Bool :=
  if s.p6.dir.getLsbD j then
    if s.p6.driven.getLsbD j then s.p6.ext.getLsbD j else s.iocb.getLsbD j || s.p6.ext.getLsbD j
  else s.p6.latch.getLsbD j

/-- The level of pin P9.j; port 9 has no pull-high. -/
def level9 (s : State) (j : Nat) : Bool :=
  if s.p9.dir.getLsbD j then s.p9.ext.getLsbD j else s.p9.latch.getLsbD j

/-- The bit of RF and IOCF that pin P6.j shares (R322). -/
def flagOfPin : Nat → Nat
  | 0 => 1
  | 1 => 2
  | 2 => 3
  | 3 => 3
  | _ => 4

/-- From `s` to `t` some pin of port 6 whose flag is bit `k` fell from 1 to 0 (R322, R323). -/
def pinFell (s t : State) (k : Nat) : Bool :=
  (List.range 8).any fun j => flagOfPin j == k && level6 s j && !level6 t j

/-! ### Turns -/

/-- It is the CPU's turn in `s`, and `s'` is `s` with that turn taken off the agenda. -/
def cpuMoves (s s' : State) : Prop :=
  (s.agenda = [] ∧ s' = s) ∨ ∃ rest, s.agenda = .cpu :: rest ∧ s' = { s with agenda := rest }

/-- The CPU is running, not held in reset, and takes no interrupt at this boundary. -/
def executes (s : State) : Prop :=
  s.resetLow = false ∧ s.run = .running ∧ (s.ie = false ∨ s.rf &&& s.iocf = 0#7 ∨ s.irqHold = true)

end Sys2Proof.Claims

open Sys2Proof Sys2Proof.Machine Sys2Proof.Claims

/-! ### Encoding -/

/-- Decode of the encoding of a well-formed instruction is the instruction, every operand at every value (R150, R154). -/
def Obligations.DecodeOfEncode : Prop :=
  ∀ i : Instr, i.wellFormed = true → decode (encode i) = .instr i

/-- A word that decodes has one meaning: it is the encoding of its instruction, which is well formed (R150, R151). -/
def Obligations.EncodeOfDecode : Prop :=
  ∀ (w : Word) (i : Instr), decode w = .instr i → i.wellFormed = true ∧ encode i = w

/-- R152: the words no row gives a meaning are exactly the listed ones, and executing one is refused. -/
def Obligations.UnassignedWordsAreRefused : Prop :=
  (∀ w : Word, decode w = .unassigned w ↔
    w = 0x0005#13 ∨ w = 0x0015#13 ∨ (0x0021 ≤ w.toNat ∧ w.toNat ≤ 0x003F) ∨ (0x0081 ≤ w.toNat ∧ w.toNat ≤ 0x00BF) ∨
    w = 0x1E00#13 ∨ (0x1E02 ≤ w.toNat ∧ w.toNat ≤ 0x1E7F) ∨ (0x1E90 ≤ w.toNat ∧ w.toNat ≤ 0x1EFF)) ∧
  (∀ (s s' : State) (w : Word), cpuMoves s s' → executes s → s.mem.romRead s.pc.toNat = some w →
    decode w = .unassigned w → step s = .refused (.unassignedWord w))

/-- A few words written out from rule R150's table decode to their instructions, one of each format. -/
def Obligations.WrittenWordsDecode : Prop :=
  decode 0b0000000000000#13 = .instr .nop ∧ decode 0b0000000010011#13 = .instr .reti ∧
  decode 0b0000000000110#13 = .instr (.iow 6) ∧ decode 0b0000000011111#13 = .instr (.ior 15) ∧
  decode 0b0000001100000#13 = .instr (.movRA 0x20) ∧ decode 0b0011111111111#13 = .instr (.jzR 0x3F) ∧
  decode 0b0101110000011#13 = .instr (.bs 3 6) ∧ decode 0b0111111111111#13 = .instr (.jbs 0x3F 7) ∧
  decode 0b1001111111111#13 = .instr (.call 0x3FF) ∧ decode 0b1010000000101#13 = .instr (.jmp 5) ∧
  decode 0b1110111111111#13 = .instr (.subAK 0xFF) ∧ decode 0b1111010001111#13 = .instr (.page 15)

/-! ### The step -/

/-- R12: when the word at `pc` decodes to `i` and the CPU executes, the step is `exec i` at the state with the
watchdog's step count advanced and the interrupt hold ended, after which the port-6 edges that the instruction made are
recorded. -/
def Obligations.StepRunsDecodedInstruction : Prop :=
  ∀ (s s' : State) (w : Word) (i : Instr), cpuMoves s s' → executes s →
    s.mem.romRead s.pc.toNat = some w → decode w = .instr i →
    (∀ t, exec i { s' with wdt := s.wdt + 1, irqHold := false } = .next t → step s = .next (recordEdges s' t)) ∧
    (∀ f, exec i { s' with wdt := s.wdt + 1, irqHold := false } = .fault f → step s = .fault f) ∧
    (∀ f, exec i { s' with wdt := s.wdt + 1, irqHold := false } = .refused f → step s = .refused f)

/-- R334: the interrupt entry, seen at a boundary of a running CPU. -/
def Obligations.InterruptEntryAtBoundary : Prop :=
  ∀ s s' : State, cpuMoves s s' → s.resetLow = false → s.run = .running → s.irqHold = false →
    s.ie = true → s.rf &&& s.iocf ≠ 0#7 →
    (s.stack.length < 8 → ∃ t, step s = .next t ∧ t.stack = s.pc :: s.stack ∧ t.pc = 0x0008#15 ∧
      t.ie = (if s.cfg.intEntryClearsIe then false else true) ∧
      t = { s with agenda := s'.agenda, stack := t.stack, pc := t.pc, ie := t.ie, wdt := t.wdt }) ∧
    (8 ≤ s.stack.length → step s = .refused .stackFull)

/-- U31: a fetch of a program ROM cell whose content is not known stops the machine. -/
def Obligations.UnknownProgramCellStops : Prop :=
  ∀ s s' : State, cpuMoves s s' → executes s → s.mem.romRead s.pc.toNat = none →
    step s = .fault (.romCellUnknown s.pc.toNat)

/-- R352, R404, D26: held in reset the CPU's turn changes nothing; while idle it changes nothing but the count of
steps since the watchdog's last clear, which goes on (the model's own, notes/assumptions/29.md, 34.md). -/
def Obligations.IdleOrHeldCpuDoesNothing : Prop :=
  ∀ s s' : State, cpuMoves s s' →
    (s.resetLow = true → step s = .next s') ∧
    (s.resetLow = false → s.run = .idle → step s = .next { s' with wdt := s.wdt + 1 })

/-! ### Reset and invariants -/

/-- R83, R84, R35: the values the spec gives for a power-on reset hold in the reset state. -/
def Obligations.ResetValues : Prop :=
  State.reset.pc = 0#15 ∧ State.reset.stack = [] ∧ State.reset.run = .running ∧
  State.reset.r3.extractLsb' 5 3 = 0#3 ∧ State.reset.flagT = true ∧ State.reset.flagP = true ∧
  State.reset.r4.extractLsb' 6 2 = 0#2 ∧ State.reset.r5 = 0#5 ∧ State.reset.ra = 0#7 ∧ State.reset.lpd = false ∧ State.reset.rb = 0#8 ∧
  State.reset.rc = 0#8 ∧ State.reset.rd = 0#5 ∧ State.reset.rf = 0#7 ∧ State.reset.r10 = 0#8 ∧ State.reset.r11 = 0#4 ∧
  State.reset.cont = 0xFF#8 ∧ State.reset.pre = 0#8 ∧ State.reset.wdt = 0 ∧
  State.reset.p6.dir = 0xFF#8 ∧ State.reset.p7.dir = 0xFF#8 ∧ State.reset.p8.dir = 0xFF#8 ∧ State.reset.p9.dir = 0xFF#8 ∧
  State.reset.ioca = 0#4 ∧ State.reset.iocb = 0#8 ∧ State.reset.cnt1 = 0#8 ∧ State.reset.iocc = 0#8 ∧
  State.reset.cnt2 = 0#8 ∧ State.reset.iocd = 0#8 ∧ State.reset.ioce = 0#2 ∧ State.reset.iocf = 0#7

/-- The invariant holds at reset. -/
def Obligations.ResetMeetsInvariant : Prop := State.reset.inv

/-- Every step keeps the invariant: memory in its canonical form, at most eight stack entries (R30), bit 5 of R3
never stored (R36), T = 1 and P = 0 while idle (R185, R353 to R356), and the reset state kept while /RESET is low (D26). -/
def Obligations.StepKeepsInvariant : Prop :=
  ∀ s t : State, s.inv → step s = .next t → t.inv

/-- R121: no step writes the program ROM, so no fetch sees a store. -/
def Obligations.ProgramIsNeverWritten : Prop :=
  ∀ s t : State, step s = .next t → ∀ k, t.mem.romRead k = s.mem.romRead k

/-- R108: the machine never changes the data ROM; and (the model's own, notes/assumptions/3.md) no step changes the
open parameters. -/
def Obligations.DataRomAndParametersAreFixed : Prop :=
  ∀ s t : State, step s = .next t → t.cfg = s.cfg ∧ ∀ k, t.mem.dromRead k = s.mem.dromRead k

/-! ### Operands -/

/-- R103 to R105: which cell each designator names, directly and through R0. -/
def Obligations.DesignatorsNameCells : Prop :=
  ∀ (r : Designator) (s : State),
    let e : Nat := if r = 0#6 then s.r4.toNat % 64 else r.toNat
    let bank : Nat := s.r4.toNat / 64
    (e = 0 → resolve r s = .refused .indirectPointerZero) ∧
    (e = 0x01 → resolve r s = .next .tcc) ∧ (e = 0x02 → resolve r s = .next .pcl) ∧
    (e = 0x03 → resolve r s = .next .status) ∧ (e = 0x04 → resolve r s = .next .rsr) ∧
    (e = 0x05 → resolve r s = .next .page) ∧ (e = 0x06 → resolve r s = .next (.port .port6)) ∧
    (e = 0x07 → resolve r s = .next (.port .port7)) ∧ (e = 0x08 → resolve r s = .next (.port .port8)) ∧
    (e = 0x09 → resolve r s = .next (.port .port9)) ∧ (e = 0x0A → resolve r s = .next .ra) ∧
    (e = 0x0B → resolve r s = .next .rb) ∧ (e = 0x0C → resolve r s = .next .rc) ∧ (e = 0x0D → resolve r s = .next .rd) ∧
    (e = 0x0E → resolve r s = .next .re) ∧ (e = 0x0F → resolve r s = .next .rf) ∧ (e = 0x10 → resolve r s = .next .r10) ∧
    (e = 0x11 → resolve r s = .next .r11) ∧ (e = 0x12 → resolve r s = .next .r12) ∧
    (0x13 ≤ e → s.cfg.bankSplit = .r13 → resolve r s = .next (.gpr (64 * bank + e))) ∧
    (0x13 ≤ e → e < 0x20 → s.cfg.bankSplit = .r20 → resolve r s = .next (.gpr e)) ∧
    (0x20 ≤ e → s.cfg.bankSplit = .r20 → resolve r s = .next (.gpr (64 * bank + e)))

/-- R106, R108, R109, R115, R40, R46: what a read of each cell returns, with the bits the spec leaves open left
unstated. Only the count of free values can change. -/
def Obligations.ReadsReturnCells : Prop :=
  ∀ (care : Byte) (s : State),
    readCell care .tcc s = .next (s.tcc, s) ∧ readCell care .pcl s = .next (pclByte s, s) ∧
    readCell care .rsr s = .next (s.r4, s) ∧ readCell care .rb s = .next (s.rb, s) ∧
    readCell care .rc s = .next (s.rc, s) ∧ readCell care .rd s = .next (0#3 ++ s.rd, s) ∧
    readCell care .re s =
      .next (s.mem.dromRead (65536 * s.rd.toNat + 256 * s.rc.toNat + s.rb.toNat), s) ∧
    readCell care .rf s = .next (0#1 ++ s.rf, s) ∧ readCell care .r10 s = .next (s.r10, s) ∧
    readCell care .r11 s = .next (0#4 ++ s.r11, s) ∧
    (∀ k, readCell care (.gpr k) s = .next (s.mem.ramRead k, s)) ∧
    (256 * s.r11.toNat + s.r10.toNat < s.cfg.lcdSize.val → s.cfg.lcdReadsBack = true →
      readCell care .r12 s = .next (s.mem.lcdRead (256 * s.r11.toNat + s.r10.toNat), s)) ∧
    (∃ v u, readCell care .status s = .next (v, u) ∧ u = { s with draws := u.draws } ∧
      ∀ j, j < 8 → j ≠ 5 → v.getLsbD j = s.r3.getLsbD j) ∧
    (∃ v u, readCell care .page s = .next (v, u) ∧ u = { s with draws := u.draws } ∧
      ∀ j, j < 5 → v.getLsbD j = s.r5.getLsbD j) ∧
    (∃ v u, readCell care .ra s = .next (v, u) ∧ u = { s with draws := u.draws } ∧
      (∀ j, j < 7 → v.getLsbD j = s.ra.getLsbD j) ∧ (s.lpdEnabled = true → v.getLsbD 7 = s.lpd)) ∧
    (∀ p, ∃ v u, readCell care (.port p) s = .next (v, u) ∧ u = { s with draws := u.draws } ∧
      ∀ j, j < 8 →
        ((s.port p).dir.getLsbD j = false → v.getLsbD j = (s.port p).latch.getLsbD j) ∧
        ((s.port p).dir.getLsbD j = true → (s.port p).driven.getLsbD j = true →
          v.getLsbD j = (s.port p).ext.getLsbD j) ∧
        ((s.port p).dir.getLsbD j = true → (s.port p).driven.getLsbD j = false →
          (s.pullHigh p).getLsbD j = true → v.getLsbD j = true))

/-- R106, R37, R53, R362: what a write leaves in each cell, as a read of it returns afterwards. -/
def Obligations.WritesAreReadBack : Prop :=
  ∀ (c : Cell) (v : Byte) (s : State), s.mem.wf → c ≠ .pcl → c ≠ .re → present c s →
    ∃ t, writeCell c v s = .next t ∧
      (c = .tcc ∨ c = .rsr ∨ c = .rb ∨ c = .rc ∨ c = .r10 ∨ (c = .r12 ∧ s.cfg.lcdReadsBack = true) ∨ (∃ k, c = .gpr k) →
        readCell allBits c t = .next (v, t)) ∧
      (c = .tcc → t.pre = 0#8) ∧
      (c = .rd → readCell allBits c t = .next (v &&& 0x1F#8, t)) ∧
      (c = .r11 → readCell allBits c t = .next (v &&& 0x0F#8, t)) ∧
      (c = .rf → readCell allBits c t = .next (v &&& (0#1 ++ s.rf), t)) ∧
      (c = .page → t.r5 = v.extractLsb' 0 5) ∧ (c = .ra → t.ra = v.extractLsb' 0 7 ∧ t.lpd = s.lpd) ∧
      (∀ p, c = .port p → (t.port p).latch = v) ∧
      (c = .status → t.r3.extractLsb' 6 2 = v.extractLsb' 6 2 ∧ t.r3.extractLsb' 0 3 = v.extractLsb' 0 3 ∧
        t.r3.getLsbD 5 = s.r3.getLsbD 5 ∧
        t.r3.extractLsb' 3 2 = if s.cfg.r3TpWritable then v.extractLsb' 3 2 else s.r3.extractLsb' 3 2)

/-- What an instruction that writes its register operand changes: that cell (R1 with its prescaler), R3, `pc` and the
count of free values; A, the stack, IE, every other register and every other byte of memory are unchanged. -/
def Obligations.RegisterDestinationFrame : Prop :=
  ∀ (r : Designator) (b : BitNumber) (i : Instr) (c : Cell) (s t : State),
    i ∈ registerDestination r b → names r s c → exec i s = .next t → onlyCell c s t

/-! ### Instructions with the result in A -/

/-- R201, R230, R233, R236, R239, R241, R243: the register is the operand, A gets the result, only Z is written. -/
def Obligations.LogicToAccumulator : Prop :=
  ∀ (r : Designator) (s : State) (c : Cell), names r s c → present c s → s.pc ≠ 0x7FFF#15 →
    decode (0x0400#13 ||| r.setWidth 13) = .instr (.movAR r) ∧
    decode (0x0200#13 ||| r.setWidth 13) = .instr (.orAR r) ∧
    decode (0x0280#13 ||| r.setWidth 13) = .instr (.andAR r) ∧
    decode (0x0300#13 ||| r.setWidth 13) = .instr (.xorAR r) ∧
    decode (0x0180#13 ||| r.setWidth 13) = .instr (.decaR r) ∧
    decode (0x0500#13 ||| r.setWidth 13) = .instr (.incaR r) ∧
    decode (0x0480#13 ||| r.setWidth 13) = .instr (.comaR r) ∧
    accumulatorGets (.movAR r) c s (fun v => v) (fun v => zStatus v s.r3) ∧
    accumulatorGets (.orAR r) c s (fun v => s.a ||| v) (fun v => zStatus (s.a ||| v) s.r3) ∧
    accumulatorGets (.andAR r) c s (fun v => s.a &&& v) (fun v => zStatus (s.a &&& v) s.r3) ∧
    accumulatorGets (.xorAR r) c s (fun v => s.a ^^^ v) (fun v => zStatus (s.a ^^^ v) s.r3) ∧
    accumulatorGets (.decaR r) c s (fun v => v - 1#8) (fun v => zStatus (v - 1#8) s.r3) ∧
    accumulatorGets (.incaR r) c s (fun v => v + 1#8) (fun v => zStatus (v + 1#8) s.r3) ∧
    accumulatorGets (.comaR r) c s (fun v => ~~~v) (fun v => zStatus (~~~v) s.r3)

/-- R206, R260, R262: swap and rotates into A; the rotates write C only, SWAPA no flag. -/
def Obligations.RotatesAndSwapToAccumulator : Prop :=
  ∀ (r : Designator) (s : State) (c : Cell), names r s c → present c s → s.pc ≠ 0x7FFF#15 →
    decode (0x0700#13 ||| r.setWidth 13) = .instr (.swapaR r) ∧
    decode (0x0600#13 ||| r.setWidth 13) = .instr (.rrcaR r) ∧
    decode (0x0680#13 ||| r.setWidth 13) = .instr (.rlcaR r) ∧
    accumulatorGets (.swapaR r) c s (fun v => v.rotateLeft 4) (fun _ => s.r3) ∧
    accumulatorGets (.rrcaR r) c s (fun v => (v >>> 1) ||| (if s.r3.getLsbD 0 then 0x80#8 else 0#8))
      (fun v => cStatus (v.getLsbD 0) s.r3) ∧
    accumulatorGets (.rlcaR r) c s (fun v => (v <<< 1) ||| (if s.r3.getLsbD 0 then 0x01#8 else 0#8))
      (fun v => cStatus (v.getLsbD 7) s.r3)

/-- R203, R204, R232, R235, R238: the instructions on A and a literal; everything but A, R3 and `pc` is unchanged. -/
def Obligations.LiteralsToAccumulator : Prop :=
  ∀ (k : Byte) (s : State), s.pc ≠ 0x7FFF#15 →
    decode (0x1800#13 ||| k.setWidth 13) = .instr (.movAK k) ∧ decode 0x0080#13 = .instr .clra ∧
    decode (0x1900#13 ||| k.setWidth 13) = .instr (.orAK k) ∧ decode (0x1A00#13 ||| k.setWidth 13) = .instr (.andAK k) ∧
    decode (0x1B00#13 ||| k.setWidth 13) = .instr (.xorAK k) ∧
    exec (.movAK k) s = .next { s with a := k, pc := s.pc + 1#15 } ∧
    exec .clra s = .next { s with a := 0#8, r3 := s.r3 ||| 0x04#8, pc := s.pc + 1#15 } ∧
    exec (.orAK k) s = .next { s with a := s.a ||| k, r3 := zStatus (s.a ||| k) s.r3, pc := s.pc + 1#15 } ∧
    exec (.andAK k) s = .next { s with a := s.a &&& k, r3 := zStatus (s.a &&& k) s.r3, pc := s.pc + 1#15 } ∧
    exec (.xorAK k) s = .next { s with a := s.a ^^^ k, r3 := zStatus (s.a ^^^ k) s.r3, pc := s.pc + 1#15 }

/-! ### Addition and subtraction -/

/-- R220: addition and its flags, in the five instructions that use them. The jumps ADD R2,A and TBL complete at
every `pc`, the others where there is a next address (R29). -/
def Obligations.AdditionAndItsFlags : Prop :=
  ∀ (r : Designator) (k : Byte) (s : State) (c : Cell), names r s c → present c s →
    (s.pc ≠ 0x7FFF#15 →
      accumulatorGets (.addAR r) c s (fun v => s.a + v) (fun v => addStatus s.a v s.r3) ∧
      exec (.addAK k) s = .next { s with a := s.a + k, r3 := addStatus s.a k s.r3, pc := s.pc + 1#15 } ∧
      (c ≠ .pcl → c ≠ .status → c ≠ .re →
        registerGets (.addRA r) c s (fun v => s.a + v) (fun v => addStatus s.a v s.r3))) ∧
    (c = .pcl → exec (.addRA r) s = .next { s with
      r3 := addStatus (pclByte s) s.a s.r3
      pc := BitVec.ofNat 15 (1024 * s.r5.toNat + (pclByte s + s.a).toNat) }) ∧
    exec .tbl s = .next { s with
      r3 := addStatus (pclByte s) s.a s.r3
      pc := BitVec.ofNat 15 (256 * (s.pc.toNat / 256) + (pclByte s + s.a).toNat) }

/-- R221: subtraction and its flags in SUB A,R, SUB R,A and SUB A,k, under either value of the parameter; the register
or the literal is the minuend. -/
def Obligations.SubtractionAndItsFlags : Prop :=
  ∀ (r : Designator) (k : Byte) (s : State) (c : Cell), names r s c → present c s → s.pc ≠ 0x7FFF#15 →
    accumulatorGets (.subAR r) c s (fun v => v - s.a) (fun v => subStatus s.cfg.subCIsNotBorrow v s.a s.r3) ∧
    exec (.subAK k) s =
      .next { s with a := k - s.a, r3 := subStatus s.cfg.subCIsNotBorrow k s.a s.r3, pc := s.pc + 1#15 } ∧
    (c ≠ .pcl → c ≠ .status → c ≠ .re →
      registerGets (.subRA r) c s (fun v => v - s.a) (fun v => subStatus s.cfg.subCIsNotBorrow v s.a s.r3))

/-- R223: DAA writes A and C by its configuration function, the default one or any other; DC, Z and everything else
are unchanged. The default function corrects the sum of two packed-BCD bytes: the digits of the sum, and C for a sum
of 100 or more. -/
def Obligations.DecimalAdjust : Prop :=
  (∀ s : State, s.pc ≠ 0x7FFF#15 →
    exec .daa s = .next { s with
      a := (daaFun s.cfg.daaDefault s.a (s.r3.getLsbD 0) (s.r3.getLsbD 1)).1
      r3 := cStatus (daaFun s.cfg.daaDefault s.a (s.r3.getLsbD 0) (s.r3.getLsbD 1)).2 s.r3
      pc := s.pc + 1#15 }) ∧
  ∀ x y : Nat, x < 100 → y < 100 →
    let bcd := fun n : Nat => BitVec.ofNat 8 (16 * (n / 10 % 10) + n % 10)
    let sum := addAlu (bcd x) (bcd y)
    daaDefault sum.val (sum.c == some true) (sum.dc == some true) = (bcd (x + y), decide (100 ≤ x + y))

/-! ### Instructions with the result in the register -/

/-- R202, R205, R231, R234, R237, R240, R242, R244: the result goes back to the register, only Z is written. -/
def Obligations.LogicToRegister : Prop :=
  ∀ (r : Designator) (s : State) (c : Cell), names r s c → present c s → s.pc ≠ 0x7FFF#15 →
    c ≠ .pcl → c ≠ .status → c ≠ .re →
    registerGets (.movRR r) c s (fun v => v) (fun v => zStatus v s.r3) ∧
    registerGets (.orRA r) c s (fun v => s.a ||| v) (fun v => zStatus (s.a ||| v) s.r3) ∧
    registerGets (.andRA r) c s (fun v => s.a &&& v) (fun v => zStatus (s.a &&& v) s.r3) ∧
    registerGets (.xorRA r) c s (fun v => s.a ^^^ v) (fun v => zStatus (s.a ^^^ v) s.r3) ∧
    registerGets (.decR r) c s (fun v => v - 1#8) (fun v => zStatus (v - 1#8) s.r3) ∧
    registerGets (.incR r) c s (fun v => v + 1#8) (fun v => zStatus (v + 1#8) s.r3) ∧
    registerGets (.comR r) c s (fun v => ~~~v) (fun v => zStatus (~~~v) s.r3) ∧
    ∃ w, writeCell c 0#8 s = .next w ∧
      exec (.clrR r) s = .next { w with r3 := s.r3 ||| 0x04#8, pc := s.pc + 1#15 }

/-- R261, R263: the rotates of a register through the carry. -/
def Obligations.RotatesToRegister : Prop :=
  ∀ (r : Designator) (s : State) (c : Cell), names r s c → present c s → s.pc ≠ 0x7FFF#15 →
    c ≠ .pcl → c ≠ .status → c ≠ .re →
    registerGets (.rrcR r) c s (fun v => (v >>> 1) ||| (if s.r3.getLsbD 0 then 0x80#8 else 0#8))
      (fun v => cStatus (v.getLsbD 0) s.r3) ∧
    registerGets (.rlcR r) c s (fun v => (v <<< 1) ||| (if s.r3.getLsbD 0 then 0x01#8 else 0#8))
      (fun v => cStatus (v.getLsbD 7) s.r3)

/-- R200, R207, R264, R265: stores that affect no flag; R3 is allowed. -/
def Obligations.StoresWithoutFlags : Prop :=
  ∀ (r : Designator) (b : BitNumber) (s : State) (c : Cell), names r s c → present c s → s.pc ≠ 0x7FFF#15 →
    c ≠ .pcl → c ≠ .re →
    (∃ w, writeCell c s.a s = .next w ∧ exec (.movRA r) s = .next { w with pc := s.pc + 1#15 }) ∧
    registerBecomes (.swapR r) c s allBits (fun v => v.rotateLeft 4) ∧
    registerBecomes (.bc r b) c s (keptBits c) (fun v => v &&& ~~~(1#8 <<< b.toNat)) ∧
    registerBecomes (.bs r b) c s (keptBits c) (fun v => v ||| (1#8 <<< b.toNat))

/-! ### Control transfer -/

/-- R280, R281, R298: the paged jumps; only `pc` changes, and CALL pushes the next address, is refused with eight
entries held, and is refused at 0x7FFF. -/
def Obligations.PagedJumps : Prop :=
  ∀ (k : BitVec 10) (r : Designator) (s : State),
    decode (0x1400#13 ||| k.setWidth 13) = .instr (.jmp k) ∧ decode (0x1000#13 ||| k.setWidth 13) = .instr (.call k) ∧
    decode 0x0042#13 = .instr (.movRA 2) ∧ names 2 s .pcl ∧
    (s.r4.toNat % 64 = 2 → names 0 s .pcl) ∧
    (s.pc ≠ 0x7FFF#15 → 8 ≤ s.stack.length → exec (.call k) s = .refused .stackFull) ∧
    (s.pc = 0x7FFF#15 → exec (.call k) s = .refused .pastProgramEnd) ∧
    exec (.jmp k) s = .next { s with pc := BitVec.ofNat 15 (1024 * s.r5.toNat + k.toNat) } ∧
    (s.pc ≠ 0x7FFF#15 → s.stack.length < 8 →
      exec (.call k) s = .next { s with
        stack := (s.pc + 1#15) :: s.stack
        pc := BitVec.ofNat 15 (1024 * s.r5.toNat + k.toNat) }) ∧
    (names r s .pcl → exec (.movRA r) s = .next { s with pc := BitVec.ofNat 15 (1024 * s.r5.toNat + s.a.toNat) })

/-- R282, R283, R284: the returns take all 15 bits from the top of the stack; RETL loads A, RETI sets IE. On the empty
stack each is refused. -/
def Obligations.Returns : Prop :=
  ∀ (k : Byte) (s : State),
    decode 0x0012#13 = .instr .ret ∧ decode (0x1C00#13 ||| k.setWidth 13) = .instr (.retl k) ∧
    decode 0x0013#13 = .instr .reti ∧
    (∀ (v : Addr) (rest : List Addr), s.stack = v :: rest →
      exec .ret s = .next { s with pc := v, stack := rest } ∧
      exec (.retl k) s = .next { s with pc := v, stack := rest, a := k } ∧
      exec .reti s = .next { s with pc := v, stack := rest, ie := true }) ∧
    (s.stack = [] → exec .ret s = .refused .stackEmpty ∧ exec (.retl k) s = .refused .stackEmpty ∧
      exec .reti s = .refused .stackEmpty)

/-- R189: INT pushes the next address and goes to 0x0001; IE and everything else are unchanged. A push onto a full
stack is refused. -/
def Obligations.SoftwareInterrupt : Prop :=
  decode 0x1E01#13 = .instr .int ∧
  ∀ s : State, s.pc ≠ 0x7FFF#15 →
    (s.stack.length < 8 → exec .int s = .next { s with stack := (s.pc + 1#15) :: s.stack, pc := 0x0001#15 }) ∧
    (8 ≤ s.stack.length → exec .int s = .refused .stackFull)

/-- R286, R287, R293: the bit tests skip one word on the bit and change nothing else. With the bit the other way they
complete up to 0x7FFE, a skip where its target exists. -/
def Obligations.BitTestSkips : Prop :=
  ∀ (r : Designator) (b : BitNumber) (s : State) (c : Cell), names r s c → present c s → s.pc ≠ 0x7FFF#15 →
    decode (0x0C00#13 ||| b.setWidth 13 <<< 6 ||| r.setWidth 13) = .instr (.jbc r b) ∧
    decode (0x0E00#13 ||| b.setWidth 13 <<< 6 ||| r.setWidth 13) = .instr (.jbs r b) ∧
    ∃ v u, readCell (1#8 <<< b.toNat) c s = .next (v, u) ∧ u = { s with draws := u.draws } ∧
      (v.getLsbD b.toNat = true → exec (.jbc r b) s = .next { u with pc := s.pc + 1#15 }) ∧
      (v.getLsbD b.toNat = false → s.pc.toNat < 0x7FFE → exec (.jbc r b) s = .next { u with pc := s.pc + 2#15 }) ∧
      (v.getLsbD b.toNat = false → exec (.jbs r b) s = .next { u with pc := s.pc + 1#15 }) ∧
      (v.getLsbD b.toNat = true → s.pc.toNat < 0x7FFE → exec (.jbs r b) s = .next { u with pc := s.pc + 2#15 })

/-- R288, R290, R293: count into A and skip on zero; no flag. Without a skip they complete up to 0x7FFE, a skip where
its target exists. -/
def Obligations.CountSkipsToAccumulator : Prop :=
  ∀ (r : Designator) (s : State) (c : Cell), names r s c → present c s → s.pc ≠ 0x7FFF#15 →
    decode (0x0580#13 ||| r.setWidth 13) = .instr (.djzaR r) ∧
    decode (0x0780#13 ||| r.setWidth 13) = .instr (.jzaR r) ∧
    ∃ v u, readCell allBits c s = .next (v, u) ∧ u = { s with draws := u.draws } ∧
      (v ≠ 0x01#8 → exec (.djzaR r) s = .next { u with a := v - 1#8, pc := s.pc + 1#15 }) ∧
      (v = 0x01#8 → s.pc.toNat < 0x7FFE → exec (.djzaR r) s = .next { u with a := 0#8, pc := s.pc + 2#15 }) ∧
      (v ≠ 0xFF#8 → exec (.jzaR r) s = .next { u with a := v + 1#8, pc := s.pc + 1#15 }) ∧
      (v = 0xFF#8 → s.pc.toNat < 0x7FFE → exec (.jzaR r) s = .next { u with a := 0#8, pc := s.pc + 2#15 })

/-- R289, R291, R293: count in the register and skip on zero; no flag. Without a skip they complete up to 0x7FFE, a
skip where its target exists. -/
def Obligations.CountSkipsToRegister : Prop :=
  ∀ (r : Designator) (s : State) (c : Cell), names r s c → present c s → s.pc ≠ 0x7FFF#15 → c ≠ .pcl → c ≠ .re →
    ∃ v u, readCell allBits c s = .next (v, u) ∧ u = { s with draws := u.draws } ∧
      (∃ w, writeCell c (v - 1#8) u = .next w ∧
        (v ≠ 0x01#8 → exec (.djzR r) s = .next { w with pc := s.pc + 1#15 }) ∧
        (v = 0x01#8 → s.pc.toNat < 0x7FFE → exec (.djzR r) s = .next { w with pc := s.pc + 2#15 })) ∧
      (∃ w, writeCell c (v + 1#8) u = .next w ∧
        (v ≠ 0xFF#8 → exec (.jzR r) s = .next { w with pc := s.pc + 1#15 }) ∧
        (v = 0xFF#8 → s.pc.toNat < 0x7FFE → exec (.jzR r) s = .next { w with pc := s.pc + 2#15 }))

/-- R24, R292: where every instruction leaves `pc`. Only the named transfers go anywhere but to the next word or, for
the six conditional instructions, past it. -/
def Obligations.ProgramCounterOfEveryInstruction : Prop :=
  ∀ (i : Instr) (s t : State), exec i s = .next t →
    match i with
    | .jmp k => t.pc = s.r5 ++ k
    | .call k => t.pc = s.r5 ++ k
    | .ret => s.stack.head? = some t.pc
    | .retl _ => s.stack.head? = some t.pc
    | .reti => s.stack.head? = some t.pc
    | .int => t.pc = 0x0001#15
    | .tbl => t.pc.extractLsb' 8 7 = s.pc.extractLsb' 8 7
    | .movRA r => (names r s .pcl ∧ t.pc.extractLsb' 8 7 = s.r5 ++ 0#2) ∨ (¬ names r s .pcl ∧ t.pc = s.pc + 1#15)
    | .addRA r => (names r s .pcl ∧ t.pc.extractLsb' 8 7 = s.r5 ++ 0#2) ∨ (¬ names r s .pcl ∧ t.pc = s.pc + 1#15)
    | .jbc _ _ | .jbs _ _ | .djzaR _ | .djzR _ | .jzaR _ | .jzR _ => t.pc = s.pc + 1#15 ∨ t.pc = s.pc + 2#15
    | _ => t.pc = s.pc + 1#15

/-! ### System instructions -/

/-- R180, R187, R188, R190: NOP, ENI, DISI and PAGE. -/
def Obligations.NopEniDisiPage : Prop :=
  ∀ (k : BitVec 4) (s : State), s.pc ≠ 0x7FFF#15 →
    decode 0x0000#13 = .instr .nop ∧ decode (0x1E80#13 ||| k.setWidth 13) = .instr (.page k) ∧
    exec .nop s = .next { s with pc := s.pc + 1#15 } ∧
    exec .eni s = .next { s with ie := true, pc := s.pc + 1#15 } ∧
    exec .disi s = .next { s with ie := false, pc := s.pc + 1#15 } ∧
    exec (.page k) s =
      .next { s with r5 := BitVec.ofNat 5 (16 * (s.r5.toNat / 16) + k.toNat), pc := s.pc + 1#15 }

/-- R181, R182: CONT from A and to A. The prescaler is kept by a CONTW that changes neither its assignment nor its
ratio; after another it is unstated (U11). CONTR's unused bits are unstated (R65). -/
def Obligations.ContwAndContr : Prop :=
  ∀ s : State, s.pc ≠ 0x7FFF#15 →
    (∃ t, exec .contw s = .next t ∧ t.cont = s.a ∧
      t = { s with cont := t.cont, pre := t.pre, draws := t.draws, pc := s.pc + 1#15 } ∧
      (s.a.extractLsb' 0 4 = s.cont.extractLsb' 0 4 → t.pre = s.pre)) ∧
    (∃ t, exec .contr s = .next t ∧ t = { s with a := t.a, draws := t.draws, pc := s.pc + 1#15 } ∧
      t.a &&& 0x2F#8 = s.cont &&& 0x2F#8)

/-- R185, R186, R369: SLEP and WDTC clear the watchdog, and the prescaler when it is the watchdog's; T and P by the
instruction; SLEP leaves the CPU idle at the next address. -/
def Obligations.SlepAndWdtc : Prop :=
  ∀ s : State, s.pc ≠ 0x7FFF#15 →
    exec .slep s = .next { s with
      wdt := 0, pre := (if s.cont.getLsbD 3 then 0#8 else s.pre), r3 := tpStatus true false s.r3,
      pc := s.pc + 1#15, run := .idle } ∧
    exec .wdtc s = .next { s with
      wdt := 0, pre := (if s.cont.getLsbD 3 then 0#8 else s.pre), r3 := tpStatus true true s.r3, pc := s.pc + 1#15 }

/-- R183, R107, R371: IOW of every control register, in both pages; always-zero bits ignore the write. What a preset of
COUNTER1 leaves in its prescaler is unstated (U26). -/
def Obligations.ControlRegisterWrites : Prop :=
  ∀ s : State, s.pc ≠ 0x7FFF#15 →
    exec (.iow 0x6) s = .next { s with p6 := { s.p6 with dir := s.a }, pc := s.pc + 1#15 } ∧
    exec (.iow 0x7) s = .next { s with p7 := { s.p7 with dir := s.a }, pc := s.pc + 1#15 } ∧
    exec (.iow 0x8) s = .next { s with p8 := { s.p8 with dir := s.a }, pc := s.pc + 1#15 } ∧
    exec (.iow 0x9) s = .next { s with p9 := { s.p9 with dir := s.a }, pc := s.pc + 1#15 } ∧
    exec (.iow 0xA) s = .next { s with ioca := s.a.extractLsb' 4 4, pc := s.pc + 1#15 } ∧
    exec (.iow 0xF) s = .next { s with iocf := s.a.extractLsb' 0 7, pc := s.pc + 1#15 } ∧
    (s.r3.getLsbD 6 = false →
      exec (.iow 0xB) s = .next { s with iocb := s.a, pc := s.pc + 1#15 } ∧
      exec (.iow 0xC) s = .next { s with iocc := s.a, pc := s.pc + 1#15 } ∧
      exec (.iow 0xD) s = .next { s with iocd := s.a, pc := s.pc + 1#15 } ∧
      exec (.iow 0xE) s = .next { s with ioce := s.a.extractLsb' 0 2, pc := s.pc + 1#15 }) ∧
    (s.r3.getLsbD 6 = true →
      (∃ t, exec (.iow 0xB) s = .next t ∧
        t = { s with cnt1 := s.a, cpre1 := t.cpre1, draws := t.draws, pc := s.pc + 1#15 }) ∧
      exec (.iow 0xC) s = .next { s with cnt2 := s.a, pc := s.pc + 1#15 })

/-- R184, R107: IOR of every control register, in both pages; only A and `pc` change, no flag. IOCA bit 0 reads 0 by
R67 and C11, where D12 and U12 list it as open (notes/assumptions/23.md). -/
def Obligations.ControlRegisterReads : Prop :=
  ∀ s : State, s.pc ≠ 0x7FFF#15 →
    exec (.ior 0x6) s = .next { s with a := s.p6.dir, pc := s.pc + 1#15 } ∧
    exec (.ior 0x7) s = .next { s with a := s.p7.dir, pc := s.pc + 1#15 } ∧
    exec (.ior 0x8) s = .next { s with a := s.p8.dir, pc := s.pc + 1#15 } ∧
    exec (.ior 0x9) s = .next { s with a := s.p9.dir, pc := s.pc + 1#15 } ∧
    exec (.ior 0xA) s = .next { s with a := BitVec.ofNat 8 (16 * s.ioca.toNat), pc := s.pc + 1#15 } ∧
    exec (.ior 0xF) s = .next { s with a := 0#1 ++ s.iocf, pc := s.pc + 1#15 } ∧
    (s.r3.getLsbD 6 = false →
      exec (.ior 0xB) s = .next { s with a := s.iocb, pc := s.pc + 1#15 } ∧
      exec (.ior 0xC) s = .next { s with a := s.iocc, pc := s.pc + 1#15 } ∧
      exec (.ior 0xD) s = .next { s with a := s.iocd, pc := s.pc + 1#15 } ∧
      exec (.ior 0xE) s = .next { s with a := 0#6 ++ s.ioce, pc := s.pc + 1#15 }) ∧
    (s.r3.getLsbD 6 = true →
      exec (.ior 0xB) s = .next { s with a := s.cnt1, pc := s.pc + 1#15 } ∧
      exec (.ior 0xC) s = .next { s with a := s.cnt2, pc := s.pc + 1#15 })

/-! ### Where an instruction stops -/

/-- R26, R37, R50: the destinations the spec refuses. -/
def Obligations.RefusedDestinations : Prop :=
  ∀ (r : Designator) (b : BitNumber) (i : Instr) (s : State),
    (i ∈ registerDestination r b → i ≠ .movRA r → i ≠ .addRA r → names r s .pcl →
      exec i s = .refused .programCounterDestination) ∧
    (i ∈ flaggedDestination r → names r s .status → exec i s = .refused .statusDestination) ∧
    (i ∈ registerDestination r b → names r s .re → exec i s = .refused .dataRomWrite)

/-- R29: nothing passes 0x7FFF. At 0x7FFF only the transfers that do not need the next address complete, and a skip
at 0x7FFE or above is refused. -/
def Obligations.NothingPassesTheProgramEnd : Prop :=
  (∀ (i : Instr) (s t : State), s.pc = 0x7FFF#15 → exec i s = .next t →
    (∃ k, i = .jmp k) ∨ i = .ret ∨ (∃ k, i = .retl k) ∨ i = .reti ∨ i = .tbl ∨
    ∃ r, (i = .movRA r ∨ i = .addRA r) ∧ names r s .pcl) ∧
  (∀ (i : Instr) (k : Byte) (p : BitVec 4) (j : BitVec 10) (s : State), s.pc = 0x7FFF#15 →
    i ∈ [.nop, .daa, .contw, .slep, .wdtc, .eni, .disi, .contr, .clra, .movAK k, .orAK k, .andAK k, .xorAK k, .subAK k,
      .addAK k, .page p, .int, .call j] →
    exec i s = .refused .pastProgramEnd) ∧
  (∀ (r : IocNumber) (s : State), s.pc = 0x7FFF#15 → 6 ≤ r.toNat →
    ¬ (s.r3.getLsbD 6 = true ∧ (r = 0xD#4 ∨ r = 0xE#4)) →
    exec (.iow r) s = .refused .pastProgramEnd ∧ exec (.ior r) s = .refused .pastProgramEnd) ∧
  (∀ (r : Designator) (b : BitNumber) (i : Instr) (s : State) (c : Cell), s.pc = 0x7FFF#15 → names r s c → present c s →
    i ∈ registerSource r b ∨
      (i ∈ registerDestination r b ∧ c ≠ .pcl ∧ c ≠ .re ∧ (c = .status → i ∉ flaggedDestination r)) →
    exec i s = .refused .pastProgramEnd) ∧
  (∀ (r : Designator) (b : BitNumber) (s u : State) (c : Cell) (v : Byte), 0x7FFE ≤ s.pc.toNat → names r s c →
    readCell (1#8 <<< b.toNat) c s = .next (v, u) →
    (v.getLsbD b.toNat = false → exec (.jbc r b) s = .refused .pastProgramEnd) ∧
    (v.getLsbD b.toNat = true → exec (.jbs r b) s = .refused .pastProgramEnd)) ∧
  (∀ (r : Designator) (s u : State) (c : Cell) (v : Byte), 0x7FFE ≤ s.pc.toNat → names r s c →
    readCell allBits c s = .next (v, u) →
    (v = 0x01#8 → exec (.djzaR r) s = .refused .pastProgramEnd ∧
      (c ≠ .pcl → c ≠ .re → exec (.djzR r) s = .refused .pastProgramEnd)) ∧
    (v = 0xFF#8 → exec (.jzaR r) s = .refused .pastProgramEnd ∧
      (c ≠ .pcl → c ≠ .re → exec (.jzR r) s = .refused .pastProgramEnd)))

/-- R30: a ninth push and a pop from the empty stack are refused. -/
def Obligations.StackLimits : Prop :=
  ∀ (k : BitVec 10) (l : Byte) (s : State),
    (8 ≤ s.stack.length → s.pc ≠ 0x7FFF#15 →
      exec (.call k) s = .refused .stackFull ∧ exec .int s = .refused .stackFull) ∧
    (s.stack = [] → exec .ret s = .refused .stackEmpty ∧ exec (.retl l) s = .refused .stackEmpty ∧
      exec .reti s = .refused .stackEmpty)

/-- R105: every register instruction through R0 with pointer 0 is refused. -/
def Obligations.IndirectThroughZeroIsRefused : Prop :=
  ∀ (b : BitNumber) (i : Instr) (s : State), s.r4.extractLsb' 0 6 = 0#6 →
    i ∈ registerDestination 0#6 b ++ registerSource 0#6 b → exec i s = .refused .indirectPointerZero

/-- R109: every register instruction on R12 faults where the LCD RAM byte addressed does not exist. -/
def Obligations.AbsentLcdCellFaults : Prop :=
  ∀ (r : Designator) (b : BitNumber) (i : Instr) (s : State), names r s .r12 → s.cfg.lcdSize.val ≤ s.lcdAddress →
    i ∈ registerDestination r b ++ registerSource r b → exec i s = .fault (.lcdCellAbsent s.lcdAddress)

/-- R107: IOCD and IOCE have no page 1, and no IOC register has a number below 6. -/
def Obligations.AbsentControlRegisters : Prop :=
  ∀ (r : IocNumber) (s : State),
    (s.r3.getLsbD 6 = true → r = 0xD#4 ∨ r = 0xE#4 →
      exec (.iow r) s = .refused .controlPageAbsent ∧ exec (.ior r) s = .refused .controlPageAbsent) ∧
    (r.toNat < 6 →
      exec (.iow r) s = .refused .controlRegisterAbsent ∧ exec (.ior r) s = .refused .controlRegisterAbsent)

/-! ### Rules over all instructions -/

/-- R53: no instruction sets an interrupt flag. -/
def Obligations.SoftwareOnlyClearsFlags : Prop :=
  ∀ (i : Instr) (s t : State), exec i s = .next t → t.rf &&& ~~~s.rf = 0#7

/-- R294: who pushes and who pops. -/
def Obligations.OnlyCallsAndReturnsMoveTheStack : Prop :=
  ∀ (i : Instr) (s t : State), exec i s = .next t →
    match i with
    | .call _ | .int => t.stack = (s.pc + 1#15) :: s.stack
    | .ret | .retl _ | .reti => s.stack = t.pc :: t.stack
    | _ => t.stack = s.stack

/-- R76: only ENI, DISI and RETI change the interrupt enable. -/
def Obligations.OnlyEniDisiRetiChangeTheEnable : Prop :=
  ∀ (i : Instr) (s t : State), exec i s = .next t →
    match i with
    | .eni | .reti => t.ie = true
    | .disi => t.ie = false
    | _ => t.ie = s.ie

/-- R352: a step enters the idle state only by running SLEP. -/
def Obligations.IdleIsEnteredBySlepOnly : Prop :=
  ∀ s t : State, s.run = .running → step s = .next t → t.run = .idle →
    s.mem.romRead s.pc.toNat = some 0x0003#13

/-- R353 to R357: a step leaves the idle state only by an event: the TCC's overflow with TS and its mask set, the
enabled watchdog's time-out, a change of P9.0 to P9.2 from 1 to 0 with its RA bit set, or a reset. -/
def Obligations.IdleIsLeftByWakeUpOrReset : Prop :=
  ∀ s t : State, s.run = .idle → step s = .next t → t.run = .running →
    ∃ e rest, s.agenda = .event e :: rest ∧
      ((e = .tccTick ∧ s.tcc = 0xFF#8 ∧ s.cont.getLsbD 5 = true ∧ s.iocf.getLsbD 0 = true) ∨
       (e = .watchdog ∧ s.ra.getLsbD 3 = true) ∨
       (∃ (j : Fin 8) (d : PinDrive), e = .pin .port9 j d ∧ j.val < 3 ∧ s.ra.getLsbD j.val = true ∧
         level9 s j.val = true ∧ level9 t j.val = false) ∨
       (∃ v, e = .supplyReset v ∧ v = s.cfg.resetSource) ∨ e = .resetPin true)

/-! ### Events -/

/-- R52, R322: an event other than a reset clears no flag and sets only its own, under its mask bit: the TCC bit 0, the
counters bits 5 and 6, a pin of port 6 the one bit it shares; a pin of another port, the supply's detector, the
watchdog's wake-up and the release of /RESET none. -/
def Obligations.EventsRaiseMaskedFlagsOnly : Prop :=
  ∀ (e : Event) (s : State),
    (e = .tccTick → s.rf ||| (0x01#7 &&& s.iocf) = (occur e s).rf ||| (0x01#7 &&& s.iocf) ∧ s.rf &&& ~~~(occur e s).rf = 0#7) ∧
    (e = .counter1Tick → s.rf ||| (0x20#7 &&& s.iocf) = (occur e s).rf ||| (0x20#7 &&& s.iocf) ∧ s.rf &&& ~~~(occur e s).rf = 0#7) ∧
    (e = .counter2Tick → s.rf ||| (0x40#7 &&& s.iocf) = (occur e s).rf ||| (0x40#7 &&& s.iocf) ∧ s.rf &&& ~~~(occur e s).rf = 0#7) ∧
    (∀ j d, e = .pin .port6 j d →
      (occur e s).rf = s.rf ∨ (occur e s).rf = s.rf ||| ((1#7 <<< flagOfPin j.val) &&& s.iocf)) ∧
    (∀ p j d, e = .pin p j d → p ≠ .port6 → (occur e s).rf = s.rf) ∧
    (∀ v, e = .supply v → (occur e s).rf = s.rf) ∧
    (e = .watchdog → s.run = .idle → (occur e s).rf = s.rf) ∧ (e = .resetPin false → (occur e s).rf = s.rf)

/-- R360 to R364: the TCC's tick, while its source runs: a prescaler count that does not roll over changes nothing
else; a TCC count goes up, and an overflow of the running CPU's TCC raises the flag under its mask. Without a running
source, or held in reset (DEDUCED from D26, notes/assumptions/32.md), no tick occurs. -/
def Obligations.TccTicks : Prop :=
  ∀ s : State,
    let rollsOver : Prop := (s.pre.toNat + 1) % 2 ^ (s.cont.toNat % 8 + 1) = 0
    let pre : Byte := if s.cont.getLsbD 3 then s.pre else s.pre + 1#8
    (s.resetLow = true ∨ (s.cont.getLsbD 5 = false ∧ s.run = .idle) → occur .tccTick s = s) ∧
    (s.resetLow = false → s.run = .running ∨ s.cont.getLsbD 5 = true →
      (s.cont.getLsbD 3 = false → ¬ rollsOver → occur .tccTick s = { s with pre := s.pre + 1#8 }) ∧
      (s.cont.getLsbD 3 = true ∨ rollsOver →
        (s.tcc ≠ 0xFF#8 → occur .tccTick s = { s with pre := pre, tcc := s.tcc + 1#8 }) ∧
        (s.run = .running → s.tcc = 0xFF#8 →
          occur .tccTick s = { s with pre := pre, tcc := 0#8, rf := s.rf ||| (s.iocf &&& 0x01#7) })))

/-- R354: the wake-up by a TCC overflow: the flag is set, the CPU runs on at the same `pc`, T and P are kept, no
register is changed. -/
def Obligations.TccWakesTheIdleCpu : Prop :=
  ∀ s : State, s.resetLow = false → s.run = .idle → s.cont.getLsbD 5 = true →
    s.cont.getLsbD 3 = true ∨ (s.pre.toNat + 1) % 2 ^ (s.cont.toNat % 8 + 1) = 0 → s.tcc = 0xFF#8 →
    ∃ t, occur .tccTick s = t ∧ t.tcc = 0#8 ∧ t.pre = (if s.cont.getLsbD 3 then s.pre else s.pre + 1#8) ∧
      (s.iocf.getLsbD 0 = true → t.run = .running ∧ t.rf = s.rf ||| 0x01#7 ∧
        t = { s with tcc := t.tcc, pre := t.pre, rf := t.rf, run := t.run, irqHold := t.irqHold, draws := t.draws }) ∧
      (s.iocf.getLsbD 0 = false → t = { s with tcc := t.tcc, pre := t.pre })

/-- R370 to R373: the counters' ticks: COUNTER1 counts every 2^m periods, m = IOCA[5:4], COUNTER2 every period; each
raises its flag under its mask at the overflow and goes on from 0; on the main clock only in normal mode. That they count in idle
mode too is the model's choice (notes/assumptions/30.md), that they raise their flags there its deduction
(notes/assumptions/31.md). -/
def Obligations.CounterTicks : Prop :=
  ∀ s : State,
    (s.resetLow = false → s.ioca.getLsbD 2 = false ∨ (s.run = .running ∧ s.ra.getLsbD 6 = true) →
      ((s.cpre1.toNat + 1) % 2 ^ (s.ioca.toNat % 4) ≠ 0 → occur .counter1Tick s = { s with cpre1 := s.cpre1 + 1#3 }) ∧
      ((s.cpre1.toNat + 1) % 2 ^ (s.ioca.toNat % 4) = 0 →
        (s.cnt1 ≠ 0xFF#8 → occur .counter1Tick s = { s with cpre1 := s.cpre1 + 1#3, cnt1 := s.cnt1 + 1#8 }) ∧
        (s.cnt1 = 0xFF#8 → occur .counter1Tick s =
          { s with cpre1 := s.cpre1 + 1#3, cnt1 := 0#8, rf := s.rf ||| (s.iocf &&& 0x20#7) }))) ∧
    (s.resetLow = false → s.ioca.getLsbD 3 = false ∨ (s.run = .running ∧ s.ra.getLsbD 6 = true) →
      (s.cnt2 ≠ 0xFF#8 → occur .counter2Tick s = { s with cnt2 := s.cnt2 + 1#8 }) ∧
      (s.cnt2 = 0xFF#8 → occur .counter2Tick s = { s with cnt2 := 0#8, rf := s.rf ||| (s.iocf &&& 0x40#7) })) ∧
    (s.run = .idle ∨ s.ra.getLsbD 6 = false →
      (s.ioca.getLsbD 2 = true → occur .counter1Tick s = s) ∧ (s.ioca.getLsbD 3 = true → occur .counter2Tick s = s))

/-- R356, R366, R367, R390, R400: the watchdog's time-out: nothing while disabled or before `WDT_MIN_STEPS` steps, in
every mode; while running the reset of its cause, which leaves T = 0, P = 1; while idle a wake-up with T = 0, P = 0 and
no register changed. -/
def Obligations.WatchdogTimeOut : Prop :=
  ∀ s : State,
    (s.ra.getLsbD 3 = false → occur .watchdog s = s) ∧
    (s.wdt < s.cfg.wdtMinSteps → occur .watchdog s = s) ∧
    (s.ra.getLsbD 3 = true → s.run = .running → s.cfg.wdtMinSteps ≤ s.wdt →
      occur .watchdog s = resetEvent .watchdog s ∧
      (occur .watchdog s).pc = 0#15 ∧ (occur .watchdog s).flagT = false ∧ (occur .watchdog s).flagP = true ∧
      (occur .watchdog s).ra = 0#7 ∧ (occur .watchdog s).stack = []) ∧
    (s.ra.getLsbD 3 = true → s.run = .idle → s.cfg.wdtMinSteps ≤ s.wdt →
      ∃ t, occur .watchdog s = t ∧ t.run = .running ∧ t.r3 = tpStatus false false s.r3 ∧
        t = { s with run := t.run, r3 := t.r3, irqHold := t.irqHold, draws := t.draws })

/-- R322, R323, R390: the edges of port 6. A pin that the outside drives low raises its flag, under its mask, if it was
high. Any change the outside makes at any pin, driven, held by the pull-high, floating or an output, raises the flag
exactly if the pin's level falls. So does an instruction: after a CPU step RF is what the instruction left with the
flags, under their mask, of the pins whose level fell; MOV 6,A on an output pin and IOW 6 that turns a pin into an
output are two such falls. That an edge in idle mode sets its flag is DEDUCED (notes/assumptions/31.md); the level of
a floating pin is the environment's (notes/assumptions/27.md). -/
def Obligations.Port6EdgesRaiseFlags : Prop :=
  (∀ (s : State) (j : Fin 8), s.p6.dir.getLsbD j.val = true → s.p6.driven.getLsbD j.val = true →
    (occur (.pin .port6 j (.driven false)) s).rf =
      if s.p6.ext.getLsbD j.val then s.rf ||| ((1#7 <<< flagOfPin j.val) &&& s.iocf) else s.rf) ∧
  (∀ (s : State) (j : Fin 8) (d : PinDrive),
    (occur (.pin .port6 j d) s).rf =
      if level6 s j.val && !level6 (occur (.pin .port6 j d) s) j.val then
        s.rf ||| ((1#7 <<< flagOfPin j.val) &&& s.iocf)
      else s.rf) ∧
  (∀ (s s' u : State) (w : Word) (i : Instr), cpuMoves s s' → executes s →
    s.mem.romRead s.pc.toNat = some w → decode w = .instr i →
    exec i { s' with wdt := s.wdt + 1, irqHold := false } = .next u →
    ∃ t, step s = .next t ∧ t = { u with rf := t.rf } ∧
      ∀ k, k < 7 → t.rf.getLsbD k = (u.rf.getLsbD k || (u.iocf.getLsbD k && pinFell s u k))) ∧
  (∀ (s s' : State) (j : Fin 8), cpuMoves s s' → executes s → s.pc ≠ 0x7FFF#15 → s.a.getLsbD j.val = false →
    (s.mem.romRead s.pc.toNat = some 0x0046#13 → s.p6.dir.getLsbD j.val = false → s.p6.latch.getLsbD j.val = true →
      ∃ t, step s = .next t ∧ t.p6 = { s.p6 with latch := s.a } ∧
        (s.iocf.getLsbD (flagOfPin j.val) = true → t.rf.getLsbD (flagOfPin j.val) = true)) ∧
    (s.mem.romRead s.pc.toNat = some 0x0006#13 → level6 s j.val = true → s.p6.latch.getLsbD j.val = false →
      ∃ t, step s = .next t ∧ t.p6 = { s.p6 with dir := s.a } ∧
        (s.iocf.getLsbD (flagOfPin j.val) = true → t.rf.getLsbD (flagOfPin j.val) = true)))

/-- R355: a high-to-low edge on an input pin P9.0, P9.1 or P9.2 wakes the idle CPU when its RA bit is set: it runs on
at the same `pc`, no flag set, T, P and every register kept. The other pins of port 9 wake nothing. -/
def Obligations.Port9EdgesWake : Prop :=
  ∀ (s : State) (j : Fin 8), s.run = .idle → s.p9.dir.getLsbD j.val = true → s.p9.driven.getLsbD j.val = true →
    s.p9.ext.getLsbD j.val = true →
    ∃ t, occur (.pin .port9 j (.driven false)) s = t ∧
      t = { s with p9 := { s.p9 with ext := s.p9.ext &&& ~~~(1#8 <<< j.val) }, run := t.run, irqHold := t.irqHold, draws := t.draws } ∧
      (t.run = .running ↔ j.val < 3 ∧ s.ra.getLsbD j.val = true)

/-- R402, R400, R85: what a reset sets, for each cause; bits 7 and 6 of R3 and R4 are cleared at power-on only. What
the list does not name is unstated (R86). The outside of the pins and the parameters are not the chip's and stay. -/
def Obligations.ResetEventSetsTheList : Prop :=
  ∀ (c : ResetCause) (s : State), ∃ t, resetEvent c s = t ∧
    t.pc = 0#15 ∧ t.run = .running ∧ t.wdt = 0 ∧ t.pre = 0#8 ∧ t.cont = 0xFF#8 ∧ t.stack = [] ∧
    t.r5 = 0#5 ∧ t.ra = 0#7 ∧ (s.vdd ≠ .below22 → t.lpd = false) ∧ t.rb = 0#8 ∧ t.rc = 0#8 ∧ t.rd = 0#5 ∧ t.rf = 0#7 ∧ t.r10 = 0#8 ∧ t.r11 = 0#4 ∧
    t.p6.dir = 0xFF#8 ∧ t.p7.dir = 0xFF#8 ∧ t.p8.dir = 0xFF#8 ∧ t.p9.dir = 0xFF#8 ∧
    t.ioca = 0#4 ∧ t.iocb = 0#8 ∧ t.cnt1 = 0#8 ∧ t.iocc = 0#8 ∧ t.cnt2 = 0#8 ∧ t.iocd = 0#8 ∧ t.ioce = 0#2 ∧ t.iocf = 0#7 ∧
    (c = .supply → t.r3.extractLsb' 5 3 = 0#3 ∧ t.r4.extractLsb' 6 2 = 0#2 ∧ t.flagT = true ∧ t.flagP = true) ∧
    (c = .watchdog → t.flagT = false ∧ t.flagP = true) ∧
    (c = .pin → s.run = .idle → t.flagT = true ∧ t.flagP = false) ∧
    t.mem.rom = s.mem.rom ∧ t.mem.drom = s.mem.drom ∧ t.cfg = s.cfg ∧ t.vdd = s.vdd ∧
    t.p6 = { s.p6 with latch := t.p6.latch, dir := 0xFF#8 } ∧ t.p7 = { s.p7 with latch := t.p7.latch, dir := 0xFF#8 } ∧
    t.p8 = { s.p8 with latch := t.p8.latch, dir := 0xFF#8 } ∧ t.p9 = { s.p9 with latch := t.p9.latch, dir := 0xFF#8 }

/-- R400, R401, D26, D40: the reset causes from outside: only the supply condition that the code option enables
resets; the pin going low resets once and holds; going high it releases and changes nothing else (DEDUCED from D26,
notes/assumptions/32.md). -/
def Obligations.ResetCausesFromOutside : Prop :=
  ∀ (v : ResetSource) (s : State),
    (v = s.cfg.resetSource → occur (.supplyReset v) s = resetEvent .supply s) ∧
    (v ≠ s.cfg.resetSource → occur (.supplyReset v) s = s) ∧
    (s.resetLow = false → occur (.resetPin true) s = { resetEvent .pin s with resetLow := true }) ∧
    (s.resetLow = true → occur (.resetPin true) s = s) ∧
    occur (.resetPin false) s = { s with resetLow := false }

/-- R46, R380: the low-power detector's output, and a software write that cannot change it. The supply's three zones,
followed whatever LPDEN is, are the model's choice (notes/assumptions/26.md, U17). -/
def Obligations.LowPowerDetector : Prop :=
  ∀ (v : Byte) (s : State),
    occur (.supply .below22) s = { s with vdd := .below22, lpd := true } ∧
    occur (.supply .above24) s = { s with vdd := .above24, lpd := false } ∧
    occur (.supply .between) s = { s with vdd := .between } ∧
    (∀ t, writeCell .ra v s = .next t → t.lpd = s.lpd ∧ t.ra = v.extractLsb' 0 7)

/-! ### Fairness -/

/-- R390, R353, R354, R356: under a fair course of turns an idle CPU with a wake-up by the TCC or by the watchdog enabled
does not stay idle (the form of fairness is the model's, notes/assumptions/40.md): after some number of turns, throughout which it is idle at the same `pc`, it runs on at that `pc`,
or a reset has put it at 0. -/
def Obligations.FairIdleCpuRunsOn : Prop :=
  ∀ (c : Course) (s : State), fair c s → s.run = .idle → s.resetLow = false →
    (s.cont.getLsbD 5 = true ∧ s.iocf.getLsbD 0 = true) ∨ s.ra.getLsbD 3 = true →
    ∃ n t, courseRun c s n = .next t ∧ t.run = .running ∧ (t.pc = s.pc ∨ t.pc = 0#15) ∧
      ∀ m, m < n → ∃ u, courseRun c s m = .next u ∧ u.run = .idle ∧ u.pc = s.pc
end

