-- ==== Sys2Proof/Laws/Memory.lean ====
section
/-! SUPPORT. Sparse memory: read after write, what a write leaves alone, and the canonical form that every
memory operation keeps. -/

namespace Sys2Proof.Machine

section Lists
variable {n : Nat}

theorem lookupCell_insertCell_self (k : Nat) (v : BitVec n) (l : List (Nat × BitVec n)) :
    lookupCell k (insertCell k v l) = some v := by
  induction l with
  | nil => simp [insertCell, lookupCell]
  | cons c l ih =>
    obtain ⟨j, w⟩ := c
    unfold insertCell
    split
    · simp [lookupCell]
    · split
      · simp [lookupCell]
      · next h => simp [lookupCell, ih, Ne.symm h]

theorem lookupCell_insertCell_ne {k j : Nat} (h : j ≠ k) (v : BitVec n) (l : List (Nat × BitVec n)) :
    lookupCell j (insertCell k v l) = lookupCell j l := by
  induction l with
  | nil => simp [insertCell, lookupCell, Ne.symm h]
  | cons c l ih =>
    obtain ⟨i, w⟩ := c
    unfold insertCell
    split
    · simp [lookupCell, Ne.symm h]
    · split
      · next hk => subst hk; simp [lookupCell, Ne.symm h]
      · by_cases hi : i = j <;> simp [lookupCell, ih, hi]

theorem keysRise_tail {c : Nat × BitVec n} {l : List (Nat × BitVec n)} (h : keysRise (c :: l)) : keysRise l := by
  simp only [keysRise, List.map_cons, List.pairwise_cons] at h
  exact h.2

theorem keysRise_head {c d : Nat × BitVec n} {l : List (Nat × BitVec n)} (h : keysRise (c :: l)) (hd : d ∈ l) :
    c.1 < d.1 := by
  simp only [keysRise, List.map_cons, List.pairwise_cons] at h
  exact h.1 _ (List.mem_map_of_mem hd)

theorem keysRise_cons {c : Nat × BitVec n} {l : List (Nat × BitVec n)} (h : keysRise l) (hc : ∀ d ∈ l, c.1 < d.1) :
    keysRise (c :: l) := by
  simp only [keysRise, List.map_cons, List.pairwise_cons, List.mem_map]
  exact ⟨fun _ ⟨d, hd, e⟩ => e ▸ hc d hd, h⟩

theorem lookupCell_of_all_ne {k : Nat} {l : List (Nat × BitVec n)} (h : ∀ c ∈ l, c.1 ≠ k) : lookupCell k l = none := by
  induction l with
  | nil => rfl
  | cons c l ih =>
    obtain ⟨j, w⟩ := c
    have hj : j ≠ k := h _ List.mem_cons_self
    simp [lookupCell, hj, ih fun d hd => h d (List.mem_cons_of_mem _ hd)]

theorem lookupCell_eraseCell_self {k : Nat} {l : List (Nat × BitVec n)} (h : keysRise l) :
    lookupCell k (eraseCell k l) = none := by
  induction l with
  | nil => rfl
  | cons c l ih =>
    obtain ⟨j, w⟩ := c
    unfold eraseCell
    split
    · next e =>
      subst e
      exact lookupCell_of_all_ne fun d hd => (Nat.ne_of_lt (keysRise_head h hd)).symm
    · next e => simp [lookupCell, e, ih (keysRise_tail h)]

theorem lookupCell_eraseCell_ne {k j : Nat} (h : j ≠ k) (l : List (Nat × BitVec n)) :
    lookupCell j (eraseCell k l) = lookupCell j l := by
  induction l with
  | nil => rfl
  | cons c l ih =>
    obtain ⟨i, w⟩ := c
    unfold eraseCell
    split
    · next e => subst e; simp [lookupCell, Ne.symm h]
    · by_cases hi : i = j <;> simp [lookupCell, ih, hi]

theorem mem_of_mem_insertCell {k : Nat} {v : BitVec n} {l : List (Nat × BitVec n)} {c : Nat × BitVec n}
    (h : c ∈ insertCell k v l) : c = (k, v) ∨ c ∈ l := by
  induction l with
  | nil => simpa [insertCell] using h
  | cons d l ih =>
    unfold insertCell at h
    split at h
    · simpa using h
    · split at h
      · rcases List.mem_cons.1 h with h | h
        · exact .inl h
        · exact .inr (List.mem_cons_of_mem _ h)
      · rcases List.mem_cons.1 h with h | h
        · exact .inr (h ▸ List.mem_cons_self)
        · exact (ih h).imp_right (List.mem_cons_of_mem _)

theorem mem_of_mem_eraseCell {k : Nat} {l : List (Nat × BitVec n)} {c : Nat × BitVec n}
    (h : c ∈ eraseCell k l) : c ∈ l := by
  induction l with
  | nil => exact h
  | cons d l ih =>
    unfold eraseCell at h
    split at h
    · exact List.mem_cons_of_mem _ h
    · rcases List.mem_cons.1 h with h | h
      · exact h ▸ List.mem_cons_self
      · exact List.mem_cons_of_mem _ (ih h)

theorem keysRise_insertCell {k : Nat} {v : BitVec n} {l : List (Nat × BitVec n)} (h : keysRise l) :
    keysRise (insertCell k v l) := by
  induction l with
  | nil => simp [insertCell, keysRise]
  | cons c l ih =>
    obtain ⟨j, w⟩ := c
    unfold insertCell
    split
    · next hk =>
      refine keysRise_cons h fun d hd => ?_
      rcases List.mem_cons.1 hd with e | hd
      · exact e ▸ hk
      · exact Nat.lt_trans hk (keysRise_head h hd)
    · split
      · next _ e => subst e; exact keysRise_cons (keysRise_tail h) fun d hd => keysRise_head h hd
      · next hk hne =>
        refine keysRise_cons (ih (keysRise_tail h)) fun d hd => ?_
        rcases mem_of_mem_insertCell hd with e | hd
        · subst e; show j < k; omega
        · exact keysRise_head h hd

theorem keysRise_eraseCell {k : Nat} {l : List (Nat × BitVec n)} (h : keysRise l) : keysRise (eraseCell k l) := by
  induction l with
  | nil => exact h
  | cons c l ih =>
    unfold eraseCell
    split
    · exact keysRise_tail h
    · exact keysRise_cons (ih (keysRise_tail h)) fun d hd => keysRise_head h (mem_of_mem_eraseCell hd)

theorem keysRise_storeCell {k : Nat} {fill v : BitVec n} {l : List (Nat × BitVec n)} (h : keysRise l) :
    keysRise (storeCell fill v k l) := by
  unfold storeCell
  split
  · exact keysRise_eraseCell h
  · exact keysRise_insertCell h

theorem mem_of_mem_storeCell {k : Nat} {fill v : BitVec n} {l : List (Nat × BitVec n)} {c : Nat × BitVec n}
    (h : c ∈ storeCell fill v k l) : (c = (k, v) ∧ v ≠ fill) ∨ c ∈ l := by
  unfold storeCell at h
  split at h
  · exact .inr (mem_of_mem_eraseCell h)
  · next hv => exact (mem_of_mem_insertCell h).imp_left fun e => ⟨e, hv⟩

/-- A read after a store to the same key. -/
theorem getD_lookup_storeCell_self {k : Nat} {fill v : BitVec n} {l : List (Nat × BitVec n)} (h : keysRise l) :
    (lookupCell k (storeCell fill v k l)).getD fill = v := by
  unfold storeCell
  split
  · next e => simp [lookupCell_eraseCell_self h, e]
  · simp [lookupCell_insertCell_self]

/-- A store leaves every other key alone. -/
theorem lookup_storeCell_ne {k j : Nat} (h : j ≠ k) (fill v : BitVec n) (l : List (Nat × BitVec n)) :
    lookupCell j (storeCell fill v k l) = lookupCell j l := by
  unfold storeCell
  split
  · exact lookupCell_eraseCell_ne h l
  · exact lookupCell_insertCell_ne h v l

end Lists

/-! ### The canonical form is kept -/

theorem Memory.wf_empty : Memory.empty.wf := by decide

theorem Memory.wf_ramWrite {m : Memory} {k : Nat} (v : Byte) (h : m.wf) (hk : k < 256) : (m.ramWrite k v).wf := by
  obtain ⟨h1, h2, ⟨h3, h3'⟩, h4⟩ := h
  refine ⟨h1, h2, ⟨keysRise_storeCell h3, fun c hc => ?_⟩, h4⟩
  rcases mem_of_mem_storeCell hc with ⟨rfl, hv⟩ | hc
  · exact ⟨hk, hv⟩
  · exact h3' c hc

theorem Memory.wf_lcdWrite {m : Memory} {k : Nat} (v : Byte) (h : m.wf) (hk : k < 4096) : (m.lcdWrite k v).wf := by
  obtain ⟨h1, h2, h3, ⟨h4, h4'⟩⟩ := h
  refine ⟨h1, h2, h3, ⟨keysRise_storeCell h4, fun c hc => ?_⟩⟩
  rcases mem_of_mem_storeCell hc with ⟨rfl, hv⟩ | hc
  · exact ⟨hk, hv⟩
  · exact h4' c hc

theorem Memory.wf_romLoad {m : Memory} {k : Nat} (w : Word) (h : m.wf) (hk : k < 32768) : (m.romLoad k w).wf := by
  obtain ⟨⟨h1, h1'⟩, h2, h3, h4⟩ := h
  refine ⟨⟨keysRise_insertCell h1, fun c hc => ?_⟩, h2, h3, h4⟩
  rcases mem_of_mem_insertCell hc with rfl | hc
  · exact hk
  · exact h1' c hc

theorem Memory.wf_afterReset {m : Memory} (h : m.wf) : m.afterReset.wf := by
  refine ⟨h.1, h.2.1, ⟨?_, ?_⟩, ⟨?_, ?_⟩⟩ <;> simp [Memory.afterReset, keysRise]

/-! ### Read after write, and what a write leaves alone -/

theorem Memory.ramRead_ramWrite_self {m : Memory} (h : m.wf) (k : Nat) (v : Byte) : (m.ramWrite k v).ramRead k = v :=
  getD_lookup_storeCell_self h.2.2.1.1

theorem Memory.ramRead_ramWrite_ne (m : Memory) {k j : Nat} (h : j ≠ k) (v : Byte) :
    (m.ramWrite k v).ramRead j = m.ramRead j := by
  simp only [Memory.ramRead, Memory.ramWrite, lookup_storeCell_ne h]
  rfl

theorem Memory.lcdRead_lcdWrite_self {m : Memory} (h : m.wf) (k : Nat) (v : Byte) : (m.lcdWrite k v).lcdRead k = v :=
  getD_lookup_storeCell_self h.2.2.2.1

theorem Memory.lcdRead_lcdWrite_ne (m : Memory) {k j : Nat} (h : j ≠ k) (v : Byte) :
    (m.lcdWrite k v).lcdRead j = m.lcdRead j := by
  simp only [Memory.lcdRead, Memory.lcdWrite, lookup_storeCell_ne h]
  rfl

@[simp] theorem Memory.romRead_ramWrite (m : Memory) (k j : Nat) (v : Byte) : (m.ramWrite k v).romRead j = m.romRead j := rfl
@[simp] theorem Memory.dromRead_ramWrite (m : Memory) (k j : Nat) (v : Byte) : (m.ramWrite k v).dromRead j = m.dromRead j := rfl
@[simp] theorem Memory.lcdRead_ramWrite (m : Memory) (k j : Nat) (v : Byte) : (m.ramWrite k v).lcdRead j = m.lcdRead j := rfl
@[simp] theorem Memory.romRead_lcdWrite (m : Memory) (k j : Nat) (v : Byte) : (m.lcdWrite k v).romRead j = m.romRead j := rfl
@[simp] theorem Memory.dromRead_lcdWrite (m : Memory) (k j : Nat) (v : Byte) : (m.lcdWrite k v).dromRead j = m.dromRead j := rfl
@[simp] theorem Memory.ramRead_lcdWrite (m : Memory) (k j : Nat) (v : Byte) : (m.lcdWrite k v).ramRead j = m.ramRead j := rfl

theorem Memory.romRead_romLoad_self (m : Memory) (k : Nat) (w : Word) : (m.romLoad k w).romRead k = some w :=
  lookupCell_insertCell_self k w m.rom

end Sys2Proof.Machine
end

