-- ==== Sys2Proof/Laws/State.lean ====
section
/-! SUPPORT. What each named update of one field leaves in every field, and what it does twice. -/

namespace Sys2Proof.Machine


/-! ### setA -/

@[simp] theorem State.setA_a (s : State) (v : Byte) : (s.setA v).a = v := rfl
@[simp] theorem State.setA_pc (s : State) (v : Byte) : (s.setA v).pc = s.pc := rfl
@[simp] theorem State.setA_stack (s : State) (v : Byte) : (s.setA v).stack = s.stack := rfl
@[simp] theorem State.setA_ie (s : State) (v : Byte) : (s.setA v).ie = s.ie := rfl
@[simp] theorem State.setA_r3 (s : State) (v : Byte) : (s.setA v).r3 = s.r3 := rfl
@[simp] theorem State.setA_r4 (s : State) (v : Byte) : (s.setA v).r4 = s.r4 := rfl
@[simp] theorem State.setA_r5 (s : State) (v : Byte) : (s.setA v).r5 = s.r5 := rfl
@[simp] theorem State.setA_run (s : State) (v : Byte) : (s.setA v).run = s.run := rfl
@[simp] theorem State.setA_resetLow (s : State) (v : Byte) : (s.setA v).resetLow = s.resetLow := rfl
@[simp] theorem State.setA_irqHold (s : State) (v : Byte) : (s.setA v).irqHold = s.irqHold := rfl
@[simp] theorem State.setA_tcc (s : State) (v : Byte) : (s.setA v).tcc = s.tcc := rfl
@[simp] theorem State.setA_cont (s : State) (v : Byte) : (s.setA v).cont = s.cont := rfl
@[simp] theorem State.setA_pre (s : State) (v : Byte) : (s.setA v).pre = s.pre := rfl
@[simp] theorem State.setA_wdt (s : State) (v : Byte) : (s.setA v).wdt = s.wdt := rfl
@[simp] theorem State.setA_cnt1 (s : State) (v : Byte) : (s.setA v).cnt1 = s.cnt1 := rfl
@[simp] theorem State.setA_cnt2 (s : State) (v : Byte) : (s.setA v).cnt2 = s.cnt2 := rfl
@[simp] theorem State.setA_cpre1 (s : State) (v : Byte) : (s.setA v).cpre1 = s.cpre1 := rfl
@[simp] theorem State.setA_p6 (s : State) (v : Byte) : (s.setA v).p6 = s.p6 := rfl
@[simp] theorem State.setA_p7 (s : State) (v : Byte) : (s.setA v).p7 = s.p7 := rfl
@[simp] theorem State.setA_p8 (s : State) (v : Byte) : (s.setA v).p8 = s.p8 := rfl
@[simp] theorem State.setA_p9 (s : State) (v : Byte) : (s.setA v).p9 = s.p9 := rfl
@[simp] theorem State.setA_ra (s : State) (v : Byte) : (s.setA v).ra = s.ra := rfl
@[simp] theorem State.setA_lpd (s : State) (v : Byte) : (s.setA v).lpd = s.lpd := rfl
@[simp] theorem State.setA_vdd (s : State) (v : Byte) : (s.setA v).vdd = s.vdd := rfl
@[simp] theorem State.setA_rb (s : State) (v : Byte) : (s.setA v).rb = s.rb := rfl
@[simp] theorem State.setA_rc (s : State) (v : Byte) : (s.setA v).rc = s.rc := rfl
@[simp] theorem State.setA_rd (s : State) (v : Byte) : (s.setA v).rd = s.rd := rfl
@[simp] theorem State.setA_rf (s : State) (v : Byte) : (s.setA v).rf = s.rf := rfl
@[simp] theorem State.setA_r10 (s : State) (v : Byte) : (s.setA v).r10 = s.r10 := rfl
@[simp] theorem State.setA_r11 (s : State) (v : Byte) : (s.setA v).r11 = s.r11 := rfl
@[simp] theorem State.setA_ioca (s : State) (v : Byte) : (s.setA v).ioca = s.ioca := rfl
@[simp] theorem State.setA_iocb (s : State) (v : Byte) : (s.setA v).iocb = s.iocb := rfl
@[simp] theorem State.setA_iocc (s : State) (v : Byte) : (s.setA v).iocc = s.iocc := rfl
@[simp] theorem State.setA_iocd (s : State) (v : Byte) : (s.setA v).iocd = s.iocd := rfl
@[simp] theorem State.setA_ioce (s : State) (v : Byte) : (s.setA v).ioce = s.ioce := rfl
@[simp] theorem State.setA_iocf (s : State) (v : Byte) : (s.setA v).iocf = s.iocf := rfl
@[simp] theorem State.setA_mem (s : State) (v : Byte) : (s.setA v).mem = s.mem := rfl
@[simp] theorem State.setA_cfg (s : State) (v : Byte) : (s.setA v).cfg = s.cfg := rfl
@[simp] theorem State.setA_agenda (s : State) (v : Byte) : (s.setA v).agenda = s.agenda := rfl
@[simp] theorem State.setA_draws (s : State) (v : Byte) : (s.setA v).draws = s.draws := rfl
@[simp] theorem State.setA_setA (s : State) (u v : Byte) : (s.setA u).setA v = s.setA v := rfl
@[simp] theorem State.setA_self (s : State) : s.setA s.a = s := rfl

/-! ### setPc -/

@[simp] theorem State.setPc_a (s : State) (v : Addr) : (s.setPc v).a = s.a := rfl
@[simp] theorem State.setPc_pc (s : State) (v : Addr) : (s.setPc v).pc = v := rfl
@[simp] theorem State.setPc_stack (s : State) (v : Addr) : (s.setPc v).stack = s.stack := rfl
@[simp] theorem State.setPc_ie (s : State) (v : Addr) : (s.setPc v).ie = s.ie := rfl
@[simp] theorem State.setPc_r3 (s : State) (v : Addr) : (s.setPc v).r3 = s.r3 := rfl
@[simp] theorem State.setPc_r4 (s : State) (v : Addr) : (s.setPc v).r4 = s.r4 := rfl
@[simp] theorem State.setPc_r5 (s : State) (v : Addr) : (s.setPc v).r5 = s.r5 := rfl
@[simp] theorem State.setPc_run (s : State) (v : Addr) : (s.setPc v).run = s.run := rfl
@[simp] theorem State.setPc_resetLow (s : State) (v : Addr) : (s.setPc v).resetLow = s.resetLow := rfl
@[simp] theorem State.setPc_irqHold (s : State) (v : Addr) : (s.setPc v).irqHold = s.irqHold := rfl
@[simp] theorem State.setPc_tcc (s : State) (v : Addr) : (s.setPc v).tcc = s.tcc := rfl
@[simp] theorem State.setPc_cont (s : State) (v : Addr) : (s.setPc v).cont = s.cont := rfl
@[simp] theorem State.setPc_pre (s : State) (v : Addr) : (s.setPc v).pre = s.pre := rfl
@[simp] theorem State.setPc_wdt (s : State) (v : Addr) : (s.setPc v).wdt = s.wdt := rfl
@[simp] theorem State.setPc_cnt1 (s : State) (v : Addr) : (s.setPc v).cnt1 = s.cnt1 := rfl
@[simp] theorem State.setPc_cnt2 (s : State) (v : Addr) : (s.setPc v).cnt2 = s.cnt2 := rfl
@[simp] theorem State.setPc_cpre1 (s : State) (v : Addr) : (s.setPc v).cpre1 = s.cpre1 := rfl
@[simp] theorem State.setPc_p6 (s : State) (v : Addr) : (s.setPc v).p6 = s.p6 := rfl
@[simp] theorem State.setPc_p7 (s : State) (v : Addr) : (s.setPc v).p7 = s.p7 := rfl
@[simp] theorem State.setPc_p8 (s : State) (v : Addr) : (s.setPc v).p8 = s.p8 := rfl
@[simp] theorem State.setPc_p9 (s : State) (v : Addr) : (s.setPc v).p9 = s.p9 := rfl
@[simp] theorem State.setPc_ra (s : State) (v : Addr) : (s.setPc v).ra = s.ra := rfl
@[simp] theorem State.setPc_lpd (s : State) (v : Addr) : (s.setPc v).lpd = s.lpd := rfl
@[simp] theorem State.setPc_vdd (s : State) (v : Addr) : (s.setPc v).vdd = s.vdd := rfl
@[simp] theorem State.setPc_rb (s : State) (v : Addr) : (s.setPc v).rb = s.rb := rfl
@[simp] theorem State.setPc_rc (s : State) (v : Addr) : (s.setPc v).rc = s.rc := rfl
@[simp] theorem State.setPc_rd (s : State) (v : Addr) : (s.setPc v).rd = s.rd := rfl
@[simp] theorem State.setPc_rf (s : State) (v : Addr) : (s.setPc v).rf = s.rf := rfl
@[simp] theorem State.setPc_r10 (s : State) (v : Addr) : (s.setPc v).r10 = s.r10 := rfl
@[simp] theorem State.setPc_r11 (s : State) (v : Addr) : (s.setPc v).r11 = s.r11 := rfl
@[simp] theorem State.setPc_ioca (s : State) (v : Addr) : (s.setPc v).ioca = s.ioca := rfl
@[simp] theorem State.setPc_iocb (s : State) (v : Addr) : (s.setPc v).iocb = s.iocb := rfl
@[simp] theorem State.setPc_iocc (s : State) (v : Addr) : (s.setPc v).iocc = s.iocc := rfl
@[simp] theorem State.setPc_iocd (s : State) (v : Addr) : (s.setPc v).iocd = s.iocd := rfl
@[simp] theorem State.setPc_ioce (s : State) (v : Addr) : (s.setPc v).ioce = s.ioce := rfl
@[simp] theorem State.setPc_iocf (s : State) (v : Addr) : (s.setPc v).iocf = s.iocf := rfl
@[simp] theorem State.setPc_mem (s : State) (v : Addr) : (s.setPc v).mem = s.mem := rfl
@[simp] theorem State.setPc_cfg (s : State) (v : Addr) : (s.setPc v).cfg = s.cfg := rfl
@[simp] theorem State.setPc_agenda (s : State) (v : Addr) : (s.setPc v).agenda = s.agenda := rfl
@[simp] theorem State.setPc_draws (s : State) (v : Addr) : (s.setPc v).draws = s.draws := rfl
@[simp] theorem State.setPc_setPc (s : State) (u v : Addr) : (s.setPc u).setPc v = s.setPc v := rfl
@[simp] theorem State.setPc_self (s : State) : s.setPc s.pc = s := rfl

/-! ### setStack -/

@[simp] theorem State.setStack_a (s : State) (v : List Addr) : (s.setStack v).a = s.a := rfl
@[simp] theorem State.setStack_pc (s : State) (v : List Addr) : (s.setStack v).pc = s.pc := rfl
@[simp] theorem State.setStack_stack (s : State) (v : List Addr) : (s.setStack v).stack = v := rfl
@[simp] theorem State.setStack_ie (s : State) (v : List Addr) : (s.setStack v).ie = s.ie := rfl
@[simp] theorem State.setStack_r3 (s : State) (v : List Addr) : (s.setStack v).r3 = s.r3 := rfl
@[simp] theorem State.setStack_r4 (s : State) (v : List Addr) : (s.setStack v).r4 = s.r4 := rfl
@[simp] theorem State.setStack_r5 (s : State) (v : List Addr) : (s.setStack v).r5 = s.r5 := rfl
@[simp] theorem State.setStack_run (s : State) (v : List Addr) : (s.setStack v).run = s.run := rfl
@[simp] theorem State.setStack_resetLow (s : State) (v : List Addr) : (s.setStack v).resetLow = s.resetLow := rfl
@[simp] theorem State.setStack_irqHold (s : State) (v : List Addr) : (s.setStack v).irqHold = s.irqHold := rfl
@[simp] theorem State.setStack_tcc (s : State) (v : List Addr) : (s.setStack v).tcc = s.tcc := rfl
@[simp] theorem State.setStack_cont (s : State) (v : List Addr) : (s.setStack v).cont = s.cont := rfl
@[simp] theorem State.setStack_pre (s : State) (v : List Addr) : (s.setStack v).pre = s.pre := rfl
@[simp] theorem State.setStack_wdt (s : State) (v : List Addr) : (s.setStack v).wdt = s.wdt := rfl
@[simp] theorem State.setStack_cnt1 (s : State) (v : List Addr) : (s.setStack v).cnt1 = s.cnt1 := rfl
@[simp] theorem State.setStack_cnt2 (s : State) (v : List Addr) : (s.setStack v).cnt2 = s.cnt2 := rfl
@[simp] theorem State.setStack_cpre1 (s : State) (v : List Addr) : (s.setStack v).cpre1 = s.cpre1 := rfl
@[simp] theorem State.setStack_p6 (s : State) (v : List Addr) : (s.setStack v).p6 = s.p6 := rfl
@[simp] theorem State.setStack_p7 (s : State) (v : List Addr) : (s.setStack v).p7 = s.p7 := rfl
@[simp] theorem State.setStack_p8 (s : State) (v : List Addr) : (s.setStack v).p8 = s.p8 := rfl
@[simp] theorem State.setStack_p9 (s : State) (v : List Addr) : (s.setStack v).p9 = s.p9 := rfl
@[simp] theorem State.setStack_ra (s : State) (v : List Addr) : (s.setStack v).ra = s.ra := rfl
@[simp] theorem State.setStack_lpd (s : State) (v : List Addr) : (s.setStack v).lpd = s.lpd := rfl
@[simp] theorem State.setStack_vdd (s : State) (v : List Addr) : (s.setStack v).vdd = s.vdd := rfl
@[simp] theorem State.setStack_rb (s : State) (v : List Addr) : (s.setStack v).rb = s.rb := rfl
@[simp] theorem State.setStack_rc (s : State) (v : List Addr) : (s.setStack v).rc = s.rc := rfl
@[simp] theorem State.setStack_rd (s : State) (v : List Addr) : (s.setStack v).rd = s.rd := rfl
@[simp] theorem State.setStack_rf (s : State) (v : List Addr) : (s.setStack v).rf = s.rf := rfl
@[simp] theorem State.setStack_r10 (s : State) (v : List Addr) : (s.setStack v).r10 = s.r10 := rfl
@[simp] theorem State.setStack_r11 (s : State) (v : List Addr) : (s.setStack v).r11 = s.r11 := rfl
@[simp] theorem State.setStack_ioca (s : State) (v : List Addr) : (s.setStack v).ioca = s.ioca := rfl
@[simp] theorem State.setStack_iocb (s : State) (v : List Addr) : (s.setStack v).iocb = s.iocb := rfl
@[simp] theorem State.setStack_iocc (s : State) (v : List Addr) : (s.setStack v).iocc = s.iocc := rfl
@[simp] theorem State.setStack_iocd (s : State) (v : List Addr) : (s.setStack v).iocd = s.iocd := rfl
@[simp] theorem State.setStack_ioce (s : State) (v : List Addr) : (s.setStack v).ioce = s.ioce := rfl
@[simp] theorem State.setStack_iocf (s : State) (v : List Addr) : (s.setStack v).iocf = s.iocf := rfl
@[simp] theorem State.setStack_mem (s : State) (v : List Addr) : (s.setStack v).mem = s.mem := rfl
@[simp] theorem State.setStack_cfg (s : State) (v : List Addr) : (s.setStack v).cfg = s.cfg := rfl
@[simp] theorem State.setStack_agenda (s : State) (v : List Addr) : (s.setStack v).agenda = s.agenda := rfl
@[simp] theorem State.setStack_draws (s : State) (v : List Addr) : (s.setStack v).draws = s.draws := rfl
@[simp] theorem State.setStack_setStack (s : State) (u v : List Addr) : (s.setStack u).setStack v = s.setStack v := rfl
@[simp] theorem State.setStack_self (s : State) : s.setStack s.stack = s := rfl

/-! ### setIe -/

@[simp] theorem State.setIe_a (s : State) (v : Bool) : (s.setIe v).a = s.a := rfl
@[simp] theorem State.setIe_pc (s : State) (v : Bool) : (s.setIe v).pc = s.pc := rfl
@[simp] theorem State.setIe_stack (s : State) (v : Bool) : (s.setIe v).stack = s.stack := rfl
@[simp] theorem State.setIe_ie (s : State) (v : Bool) : (s.setIe v).ie = v := rfl
@[simp] theorem State.setIe_r3 (s : State) (v : Bool) : (s.setIe v).r3 = s.r3 := rfl
@[simp] theorem State.setIe_r4 (s : State) (v : Bool) : (s.setIe v).r4 = s.r4 := rfl
@[simp] theorem State.setIe_r5 (s : State) (v : Bool) : (s.setIe v).r5 = s.r5 := rfl
@[simp] theorem State.setIe_run (s : State) (v : Bool) : (s.setIe v).run = s.run := rfl
@[simp] theorem State.setIe_resetLow (s : State) (v : Bool) : (s.setIe v).resetLow = s.resetLow := rfl
@[simp] theorem State.setIe_irqHold (s : State) (v : Bool) : (s.setIe v).irqHold = s.irqHold := rfl
@[simp] theorem State.setIe_tcc (s : State) (v : Bool) : (s.setIe v).tcc = s.tcc := rfl
@[simp] theorem State.setIe_cont (s : State) (v : Bool) : (s.setIe v).cont = s.cont := rfl
@[simp] theorem State.setIe_pre (s : State) (v : Bool) : (s.setIe v).pre = s.pre := rfl
@[simp] theorem State.setIe_wdt (s : State) (v : Bool) : (s.setIe v).wdt = s.wdt := rfl
@[simp] theorem State.setIe_cnt1 (s : State) (v : Bool) : (s.setIe v).cnt1 = s.cnt1 := rfl
@[simp] theorem State.setIe_cnt2 (s : State) (v : Bool) : (s.setIe v).cnt2 = s.cnt2 := rfl
@[simp] theorem State.setIe_cpre1 (s : State) (v : Bool) : (s.setIe v).cpre1 = s.cpre1 := rfl
@[simp] theorem State.setIe_p6 (s : State) (v : Bool) : (s.setIe v).p6 = s.p6 := rfl
@[simp] theorem State.setIe_p7 (s : State) (v : Bool) : (s.setIe v).p7 = s.p7 := rfl
@[simp] theorem State.setIe_p8 (s : State) (v : Bool) : (s.setIe v).p8 = s.p8 := rfl
@[simp] theorem State.setIe_p9 (s : State) (v : Bool) : (s.setIe v).p9 = s.p9 := rfl
@[simp] theorem State.setIe_ra (s : State) (v : Bool) : (s.setIe v).ra = s.ra := rfl
@[simp] theorem State.setIe_lpd (s : State) (v : Bool) : (s.setIe v).lpd = s.lpd := rfl
@[simp] theorem State.setIe_vdd (s : State) (v : Bool) : (s.setIe v).vdd = s.vdd := rfl
@[simp] theorem State.setIe_rb (s : State) (v : Bool) : (s.setIe v).rb = s.rb := rfl
@[simp] theorem State.setIe_rc (s : State) (v : Bool) : (s.setIe v).rc = s.rc := rfl
@[simp] theorem State.setIe_rd (s : State) (v : Bool) : (s.setIe v).rd = s.rd := rfl
@[simp] theorem State.setIe_rf (s : State) (v : Bool) : (s.setIe v).rf = s.rf := rfl
@[simp] theorem State.setIe_r10 (s : State) (v : Bool) : (s.setIe v).r10 = s.r10 := rfl
@[simp] theorem State.setIe_r11 (s : State) (v : Bool) : (s.setIe v).r11 = s.r11 := rfl
@[simp] theorem State.setIe_ioca (s : State) (v : Bool) : (s.setIe v).ioca = s.ioca := rfl
@[simp] theorem State.setIe_iocb (s : State) (v : Bool) : (s.setIe v).iocb = s.iocb := rfl
@[simp] theorem State.setIe_iocc (s : State) (v : Bool) : (s.setIe v).iocc = s.iocc := rfl
@[simp] theorem State.setIe_iocd (s : State) (v : Bool) : (s.setIe v).iocd = s.iocd := rfl
@[simp] theorem State.setIe_ioce (s : State) (v : Bool) : (s.setIe v).ioce = s.ioce := rfl
@[simp] theorem State.setIe_iocf (s : State) (v : Bool) : (s.setIe v).iocf = s.iocf := rfl
@[simp] theorem State.setIe_mem (s : State) (v : Bool) : (s.setIe v).mem = s.mem := rfl
@[simp] theorem State.setIe_cfg (s : State) (v : Bool) : (s.setIe v).cfg = s.cfg := rfl
@[simp] theorem State.setIe_agenda (s : State) (v : Bool) : (s.setIe v).agenda = s.agenda := rfl
@[simp] theorem State.setIe_draws (s : State) (v : Bool) : (s.setIe v).draws = s.draws := rfl
@[simp] theorem State.setIe_setIe (s : State) (u v : Bool) : (s.setIe u).setIe v = s.setIe v := rfl
@[simp] theorem State.setIe_self (s : State) : s.setIe s.ie = s := rfl

/-! ### setStatus -/

@[simp] theorem State.setStatus_a (s : State) (v : Byte) : (s.setStatus v).a = s.a := rfl
@[simp] theorem State.setStatus_pc (s : State) (v : Byte) : (s.setStatus v).pc = s.pc := rfl
@[simp] theorem State.setStatus_stack (s : State) (v : Byte) : (s.setStatus v).stack = s.stack := rfl
@[simp] theorem State.setStatus_ie (s : State) (v : Byte) : (s.setStatus v).ie = s.ie := rfl
@[simp] theorem State.setStatus_r3 (s : State) (v : Byte) : (s.setStatus v).r3 = v := rfl
@[simp] theorem State.setStatus_r4 (s : State) (v : Byte) : (s.setStatus v).r4 = s.r4 := rfl
@[simp] theorem State.setStatus_r5 (s : State) (v : Byte) : (s.setStatus v).r5 = s.r5 := rfl
@[simp] theorem State.setStatus_run (s : State) (v : Byte) : (s.setStatus v).run = s.run := rfl
@[simp] theorem State.setStatus_resetLow (s : State) (v : Byte) : (s.setStatus v).resetLow = s.resetLow := rfl
@[simp] theorem State.setStatus_irqHold (s : State) (v : Byte) : (s.setStatus v).irqHold = s.irqHold := rfl
@[simp] theorem State.setStatus_tcc (s : State) (v : Byte) : (s.setStatus v).tcc = s.tcc := rfl
@[simp] theorem State.setStatus_cont (s : State) (v : Byte) : (s.setStatus v).cont = s.cont := rfl
@[simp] theorem State.setStatus_pre (s : State) (v : Byte) : (s.setStatus v).pre = s.pre := rfl
@[simp] theorem State.setStatus_wdt (s : State) (v : Byte) : (s.setStatus v).wdt = s.wdt := rfl
@[simp] theorem State.setStatus_cnt1 (s : State) (v : Byte) : (s.setStatus v).cnt1 = s.cnt1 := rfl
@[simp] theorem State.setStatus_cnt2 (s : State) (v : Byte) : (s.setStatus v).cnt2 = s.cnt2 := rfl
@[simp] theorem State.setStatus_cpre1 (s : State) (v : Byte) : (s.setStatus v).cpre1 = s.cpre1 := rfl
@[simp] theorem State.setStatus_p6 (s : State) (v : Byte) : (s.setStatus v).p6 = s.p6 := rfl
@[simp] theorem State.setStatus_p7 (s : State) (v : Byte) : (s.setStatus v).p7 = s.p7 := rfl
@[simp] theorem State.setStatus_p8 (s : State) (v : Byte) : (s.setStatus v).p8 = s.p8 := rfl
@[simp] theorem State.setStatus_p9 (s : State) (v : Byte) : (s.setStatus v).p9 = s.p9 := rfl
@[simp] theorem State.setStatus_ra (s : State) (v : Byte) : (s.setStatus v).ra = s.ra := rfl
@[simp] theorem State.setStatus_lpd (s : State) (v : Byte) : (s.setStatus v).lpd = s.lpd := rfl
@[simp] theorem State.setStatus_vdd (s : State) (v : Byte) : (s.setStatus v).vdd = s.vdd := rfl
@[simp] theorem State.setStatus_rb (s : State) (v : Byte) : (s.setStatus v).rb = s.rb := rfl
@[simp] theorem State.setStatus_rc (s : State) (v : Byte) : (s.setStatus v).rc = s.rc := rfl
@[simp] theorem State.setStatus_rd (s : State) (v : Byte) : (s.setStatus v).rd = s.rd := rfl
@[simp] theorem State.setStatus_rf (s : State) (v : Byte) : (s.setStatus v).rf = s.rf := rfl
@[simp] theorem State.setStatus_r10 (s : State) (v : Byte) : (s.setStatus v).r10 = s.r10 := rfl
@[simp] theorem State.setStatus_r11 (s : State) (v : Byte) : (s.setStatus v).r11 = s.r11 := rfl
@[simp] theorem State.setStatus_ioca (s : State) (v : Byte) : (s.setStatus v).ioca = s.ioca := rfl
@[simp] theorem State.setStatus_iocb (s : State) (v : Byte) : (s.setStatus v).iocb = s.iocb := rfl
@[simp] theorem State.setStatus_iocc (s : State) (v : Byte) : (s.setStatus v).iocc = s.iocc := rfl
@[simp] theorem State.setStatus_iocd (s : State) (v : Byte) : (s.setStatus v).iocd = s.iocd := rfl
@[simp] theorem State.setStatus_ioce (s : State) (v : Byte) : (s.setStatus v).ioce = s.ioce := rfl
@[simp] theorem State.setStatus_iocf (s : State) (v : Byte) : (s.setStatus v).iocf = s.iocf := rfl
@[simp] theorem State.setStatus_mem (s : State) (v : Byte) : (s.setStatus v).mem = s.mem := rfl
@[simp] theorem State.setStatus_cfg (s : State) (v : Byte) : (s.setStatus v).cfg = s.cfg := rfl
@[simp] theorem State.setStatus_agenda (s : State) (v : Byte) : (s.setStatus v).agenda = s.agenda := rfl
@[simp] theorem State.setStatus_draws (s : State) (v : Byte) : (s.setStatus v).draws = s.draws := rfl
@[simp] theorem State.setStatus_setStatus (s : State) (u v : Byte) : (s.setStatus u).setStatus v = s.setStatus v := rfl
@[simp] theorem State.setStatus_self (s : State) : s.setStatus s.r3 = s := rfl

/-! ### setPage -/

@[simp] theorem State.setPage_a (s : State) (v : BitVec 5) : (s.setPage v).a = s.a := rfl
@[simp] theorem State.setPage_pc (s : State) (v : BitVec 5) : (s.setPage v).pc = s.pc := rfl
@[simp] theorem State.setPage_stack (s : State) (v : BitVec 5) : (s.setPage v).stack = s.stack := rfl
@[simp] theorem State.setPage_ie (s : State) (v : BitVec 5) : (s.setPage v).ie = s.ie := rfl
@[simp] theorem State.setPage_r3 (s : State) (v : BitVec 5) : (s.setPage v).r3 = s.r3 := rfl
@[simp] theorem State.setPage_r4 (s : State) (v : BitVec 5) : (s.setPage v).r4 = s.r4 := rfl
@[simp] theorem State.setPage_r5 (s : State) (v : BitVec 5) : (s.setPage v).r5 = v := rfl
@[simp] theorem State.setPage_run (s : State) (v : BitVec 5) : (s.setPage v).run = s.run := rfl
@[simp] theorem State.setPage_resetLow (s : State) (v : BitVec 5) : (s.setPage v).resetLow = s.resetLow := rfl
@[simp] theorem State.setPage_irqHold (s : State) (v : BitVec 5) : (s.setPage v).irqHold = s.irqHold := rfl
@[simp] theorem State.setPage_tcc (s : State) (v : BitVec 5) : (s.setPage v).tcc = s.tcc := rfl
@[simp] theorem State.setPage_cont (s : State) (v : BitVec 5) : (s.setPage v).cont = s.cont := rfl
@[simp] theorem State.setPage_pre (s : State) (v : BitVec 5) : (s.setPage v).pre = s.pre := rfl
@[simp] theorem State.setPage_wdt (s : State) (v : BitVec 5) : (s.setPage v).wdt = s.wdt := rfl
@[simp] theorem State.setPage_cnt1 (s : State) (v : BitVec 5) : (s.setPage v).cnt1 = s.cnt1 := rfl
@[simp] theorem State.setPage_cnt2 (s : State) (v : BitVec 5) : (s.setPage v).cnt2 = s.cnt2 := rfl
@[simp] theorem State.setPage_cpre1 (s : State) (v : BitVec 5) : (s.setPage v).cpre1 = s.cpre1 := rfl
@[simp] theorem State.setPage_p6 (s : State) (v : BitVec 5) : (s.setPage v).p6 = s.p6 := rfl
@[simp] theorem State.setPage_p7 (s : State) (v : BitVec 5) : (s.setPage v).p7 = s.p7 := rfl
@[simp] theorem State.setPage_p8 (s : State) (v : BitVec 5) : (s.setPage v).p8 = s.p8 := rfl
@[simp] theorem State.setPage_p9 (s : State) (v : BitVec 5) : (s.setPage v).p9 = s.p9 := rfl
@[simp] theorem State.setPage_ra (s : State) (v : BitVec 5) : (s.setPage v).ra = s.ra := rfl
@[simp] theorem State.setPage_lpd (s : State) (v : BitVec 5) : (s.setPage v).lpd = s.lpd := rfl
@[simp] theorem State.setPage_vdd (s : State) (v : BitVec 5) : (s.setPage v).vdd = s.vdd := rfl
@[simp] theorem State.setPage_rb (s : State) (v : BitVec 5) : (s.setPage v).rb = s.rb := rfl
@[simp] theorem State.setPage_rc (s : State) (v : BitVec 5) : (s.setPage v).rc = s.rc := rfl
@[simp] theorem State.setPage_rd (s : State) (v : BitVec 5) : (s.setPage v).rd = s.rd := rfl
@[simp] theorem State.setPage_rf (s : State) (v : BitVec 5) : (s.setPage v).rf = s.rf := rfl
@[simp] theorem State.setPage_r10 (s : State) (v : BitVec 5) : (s.setPage v).r10 = s.r10 := rfl
@[simp] theorem State.setPage_r11 (s : State) (v : BitVec 5) : (s.setPage v).r11 = s.r11 := rfl
@[simp] theorem State.setPage_ioca (s : State) (v : BitVec 5) : (s.setPage v).ioca = s.ioca := rfl
@[simp] theorem State.setPage_iocb (s : State) (v : BitVec 5) : (s.setPage v).iocb = s.iocb := rfl
@[simp] theorem State.setPage_iocc (s : State) (v : BitVec 5) : (s.setPage v).iocc = s.iocc := rfl
@[simp] theorem State.setPage_iocd (s : State) (v : BitVec 5) : (s.setPage v).iocd = s.iocd := rfl
@[simp] theorem State.setPage_ioce (s : State) (v : BitVec 5) : (s.setPage v).ioce = s.ioce := rfl
@[simp] theorem State.setPage_iocf (s : State) (v : BitVec 5) : (s.setPage v).iocf = s.iocf := rfl
@[simp] theorem State.setPage_mem (s : State) (v : BitVec 5) : (s.setPage v).mem = s.mem := rfl
@[simp] theorem State.setPage_cfg (s : State) (v : BitVec 5) : (s.setPage v).cfg = s.cfg := rfl
@[simp] theorem State.setPage_agenda (s : State) (v : BitVec 5) : (s.setPage v).agenda = s.agenda := rfl
@[simp] theorem State.setPage_draws (s : State) (v : BitVec 5) : (s.setPage v).draws = s.draws := rfl
@[simp] theorem State.setPage_setPage (s : State) (u v : BitVec 5) : (s.setPage u).setPage v = s.setPage v := rfl
@[simp] theorem State.setPage_self (s : State) : s.setPage s.r5 = s := rfl

/-! ### setRun -/

@[simp] theorem State.setRun_a (s : State) (v : Run) : (s.setRun v).a = s.a := rfl
@[simp] theorem State.setRun_pc (s : State) (v : Run) : (s.setRun v).pc = s.pc := rfl
@[simp] theorem State.setRun_stack (s : State) (v : Run) : (s.setRun v).stack = s.stack := rfl
@[simp] theorem State.setRun_ie (s : State) (v : Run) : (s.setRun v).ie = s.ie := rfl
@[simp] theorem State.setRun_r3 (s : State) (v : Run) : (s.setRun v).r3 = s.r3 := rfl
@[simp] theorem State.setRun_r4 (s : State) (v : Run) : (s.setRun v).r4 = s.r4 := rfl
@[simp] theorem State.setRun_r5 (s : State) (v : Run) : (s.setRun v).r5 = s.r5 := rfl
@[simp] theorem State.setRun_run (s : State) (v : Run) : (s.setRun v).run = v := rfl
@[simp] theorem State.setRun_resetLow (s : State) (v : Run) : (s.setRun v).resetLow = s.resetLow := rfl
@[simp] theorem State.setRun_irqHold (s : State) (v : Run) : (s.setRun v).irqHold = s.irqHold := rfl
@[simp] theorem State.setRun_tcc (s : State) (v : Run) : (s.setRun v).tcc = s.tcc := rfl
@[simp] theorem State.setRun_cont (s : State) (v : Run) : (s.setRun v).cont = s.cont := rfl
@[simp] theorem State.setRun_pre (s : State) (v : Run) : (s.setRun v).pre = s.pre := rfl
@[simp] theorem State.setRun_wdt (s : State) (v : Run) : (s.setRun v).wdt = s.wdt := rfl
@[simp] theorem State.setRun_cnt1 (s : State) (v : Run) : (s.setRun v).cnt1 = s.cnt1 := rfl
@[simp] theorem State.setRun_cnt2 (s : State) (v : Run) : (s.setRun v).cnt2 = s.cnt2 := rfl
@[simp] theorem State.setRun_cpre1 (s : State) (v : Run) : (s.setRun v).cpre1 = s.cpre1 := rfl
@[simp] theorem State.setRun_p6 (s : State) (v : Run) : (s.setRun v).p6 = s.p6 := rfl
@[simp] theorem State.setRun_p7 (s : State) (v : Run) : (s.setRun v).p7 = s.p7 := rfl
@[simp] theorem State.setRun_p8 (s : State) (v : Run) : (s.setRun v).p8 = s.p8 := rfl
@[simp] theorem State.setRun_p9 (s : State) (v : Run) : (s.setRun v).p9 = s.p9 := rfl
@[simp] theorem State.setRun_ra (s : State) (v : Run) : (s.setRun v).ra = s.ra := rfl
@[simp] theorem State.setRun_lpd (s : State) (v : Run) : (s.setRun v).lpd = s.lpd := rfl
@[simp] theorem State.setRun_vdd (s : State) (v : Run) : (s.setRun v).vdd = s.vdd := rfl
@[simp] theorem State.setRun_rb (s : State) (v : Run) : (s.setRun v).rb = s.rb := rfl
@[simp] theorem State.setRun_rc (s : State) (v : Run) : (s.setRun v).rc = s.rc := rfl
@[simp] theorem State.setRun_rd (s : State) (v : Run) : (s.setRun v).rd = s.rd := rfl
@[simp] theorem State.setRun_rf (s : State) (v : Run) : (s.setRun v).rf = s.rf := rfl
@[simp] theorem State.setRun_r10 (s : State) (v : Run) : (s.setRun v).r10 = s.r10 := rfl
@[simp] theorem State.setRun_r11 (s : State) (v : Run) : (s.setRun v).r11 = s.r11 := rfl
@[simp] theorem State.setRun_ioca (s : State) (v : Run) : (s.setRun v).ioca = s.ioca := rfl
@[simp] theorem State.setRun_iocb (s : State) (v : Run) : (s.setRun v).iocb = s.iocb := rfl
@[simp] theorem State.setRun_iocc (s : State) (v : Run) : (s.setRun v).iocc = s.iocc := rfl
@[simp] theorem State.setRun_iocd (s : State) (v : Run) : (s.setRun v).iocd = s.iocd := rfl
@[simp] theorem State.setRun_ioce (s : State) (v : Run) : (s.setRun v).ioce = s.ioce := rfl
@[simp] theorem State.setRun_iocf (s : State) (v : Run) : (s.setRun v).iocf = s.iocf := rfl
@[simp] theorem State.setRun_mem (s : State) (v : Run) : (s.setRun v).mem = s.mem := rfl
@[simp] theorem State.setRun_cfg (s : State) (v : Run) : (s.setRun v).cfg = s.cfg := rfl
@[simp] theorem State.setRun_agenda (s : State) (v : Run) : (s.setRun v).agenda = s.agenda := rfl
@[simp] theorem State.setRun_draws (s : State) (v : Run) : (s.setRun v).draws = s.draws := rfl
@[simp] theorem State.setRun_setRun (s : State) (u v : Run) : (s.setRun u).setRun v = s.setRun v := rfl
@[simp] theorem State.setRun_self (s : State) : s.setRun s.run = s := rfl

/-! ### setHold -/

@[simp] theorem State.setHold_a (s : State) (v : Bool) : (s.setHold v).a = s.a := rfl
@[simp] theorem State.setHold_pc (s : State) (v : Bool) : (s.setHold v).pc = s.pc := rfl
@[simp] theorem State.setHold_stack (s : State) (v : Bool) : (s.setHold v).stack = s.stack := rfl
@[simp] theorem State.setHold_ie (s : State) (v : Bool) : (s.setHold v).ie = s.ie := rfl
@[simp] theorem State.setHold_r3 (s : State) (v : Bool) : (s.setHold v).r3 = s.r3 := rfl
@[simp] theorem State.setHold_r4 (s : State) (v : Bool) : (s.setHold v).r4 = s.r4 := rfl
@[simp] theorem State.setHold_r5 (s : State) (v : Bool) : (s.setHold v).r5 = s.r5 := rfl
@[simp] theorem State.setHold_run (s : State) (v : Bool) : (s.setHold v).run = s.run := rfl
@[simp] theorem State.setHold_resetLow (s : State) (v : Bool) : (s.setHold v).resetLow = s.resetLow := rfl
@[simp] theorem State.setHold_irqHold (s : State) (v : Bool) : (s.setHold v).irqHold = v := rfl
@[simp] theorem State.setHold_tcc (s : State) (v : Bool) : (s.setHold v).tcc = s.tcc := rfl
@[simp] theorem State.setHold_cont (s : State) (v : Bool) : (s.setHold v).cont = s.cont := rfl
@[simp] theorem State.setHold_pre (s : State) (v : Bool) : (s.setHold v).pre = s.pre := rfl
@[simp] theorem State.setHold_wdt (s : State) (v : Bool) : (s.setHold v).wdt = s.wdt := rfl
@[simp] theorem State.setHold_cnt1 (s : State) (v : Bool) : (s.setHold v).cnt1 = s.cnt1 := rfl
@[simp] theorem State.setHold_cnt2 (s : State) (v : Bool) : (s.setHold v).cnt2 = s.cnt2 := rfl
@[simp] theorem State.setHold_cpre1 (s : State) (v : Bool) : (s.setHold v).cpre1 = s.cpre1 := rfl
@[simp] theorem State.setHold_p6 (s : State) (v : Bool) : (s.setHold v).p6 = s.p6 := rfl
@[simp] theorem State.setHold_p7 (s : State) (v : Bool) : (s.setHold v).p7 = s.p7 := rfl
@[simp] theorem State.setHold_p8 (s : State) (v : Bool) : (s.setHold v).p8 = s.p8 := rfl
@[simp] theorem State.setHold_p9 (s : State) (v : Bool) : (s.setHold v).p9 = s.p9 := rfl
@[simp] theorem State.setHold_ra (s : State) (v : Bool) : (s.setHold v).ra = s.ra := rfl
@[simp] theorem State.setHold_lpd (s : State) (v : Bool) : (s.setHold v).lpd = s.lpd := rfl
@[simp] theorem State.setHold_vdd (s : State) (v : Bool) : (s.setHold v).vdd = s.vdd := rfl
@[simp] theorem State.setHold_rb (s : State) (v : Bool) : (s.setHold v).rb = s.rb := rfl
@[simp] theorem State.setHold_rc (s : State) (v : Bool) : (s.setHold v).rc = s.rc := rfl
@[simp] theorem State.setHold_rd (s : State) (v : Bool) : (s.setHold v).rd = s.rd := rfl
@[simp] theorem State.setHold_rf (s : State) (v : Bool) : (s.setHold v).rf = s.rf := rfl
@[simp] theorem State.setHold_r10 (s : State) (v : Bool) : (s.setHold v).r10 = s.r10 := rfl
@[simp] theorem State.setHold_r11 (s : State) (v : Bool) : (s.setHold v).r11 = s.r11 := rfl
@[simp] theorem State.setHold_ioca (s : State) (v : Bool) : (s.setHold v).ioca = s.ioca := rfl
@[simp] theorem State.setHold_iocb (s : State) (v : Bool) : (s.setHold v).iocb = s.iocb := rfl
@[simp] theorem State.setHold_iocc (s : State) (v : Bool) : (s.setHold v).iocc = s.iocc := rfl
@[simp] theorem State.setHold_iocd (s : State) (v : Bool) : (s.setHold v).iocd = s.iocd := rfl
@[simp] theorem State.setHold_ioce (s : State) (v : Bool) : (s.setHold v).ioce = s.ioce := rfl
@[simp] theorem State.setHold_iocf (s : State) (v : Bool) : (s.setHold v).iocf = s.iocf := rfl
@[simp] theorem State.setHold_mem (s : State) (v : Bool) : (s.setHold v).mem = s.mem := rfl
@[simp] theorem State.setHold_cfg (s : State) (v : Bool) : (s.setHold v).cfg = s.cfg := rfl
@[simp] theorem State.setHold_agenda (s : State) (v : Bool) : (s.setHold v).agenda = s.agenda := rfl
@[simp] theorem State.setHold_draws (s : State) (v : Bool) : (s.setHold v).draws = s.draws := rfl
@[simp] theorem State.setHold_setHold (s : State) (u v : Bool) : (s.setHold u).setHold v = s.setHold v := rfl
@[simp] theorem State.setHold_self (s : State) : s.setHold s.irqHold = s := rfl

/-! ### setCont -/

@[simp] theorem State.setCont_a (s : State) (v : Byte) : (s.setCont v).a = s.a := rfl
@[simp] theorem State.setCont_pc (s : State) (v : Byte) : (s.setCont v).pc = s.pc := rfl
@[simp] theorem State.setCont_stack (s : State) (v : Byte) : (s.setCont v).stack = s.stack := rfl
@[simp] theorem State.setCont_ie (s : State) (v : Byte) : (s.setCont v).ie = s.ie := rfl
@[simp] theorem State.setCont_r3 (s : State) (v : Byte) : (s.setCont v).r3 = s.r3 := rfl
@[simp] theorem State.setCont_r4 (s : State) (v : Byte) : (s.setCont v).r4 = s.r4 := rfl
@[simp] theorem State.setCont_r5 (s : State) (v : Byte) : (s.setCont v).r5 = s.r5 := rfl
@[simp] theorem State.setCont_run (s : State) (v : Byte) : (s.setCont v).run = s.run := rfl
@[simp] theorem State.setCont_resetLow (s : State) (v : Byte) : (s.setCont v).resetLow = s.resetLow := rfl
@[simp] theorem State.setCont_irqHold (s : State) (v : Byte) : (s.setCont v).irqHold = s.irqHold := rfl
@[simp] theorem State.setCont_tcc (s : State) (v : Byte) : (s.setCont v).tcc = s.tcc := rfl
@[simp] theorem State.setCont_cont (s : State) (v : Byte) : (s.setCont v).cont = v := rfl
@[simp] theorem State.setCont_pre (s : State) (v : Byte) : (s.setCont v).pre = s.pre := rfl
@[simp] theorem State.setCont_wdt (s : State) (v : Byte) : (s.setCont v).wdt = s.wdt := rfl
@[simp] theorem State.setCont_cnt1 (s : State) (v : Byte) : (s.setCont v).cnt1 = s.cnt1 := rfl
@[simp] theorem State.setCont_cnt2 (s : State) (v : Byte) : (s.setCont v).cnt2 = s.cnt2 := rfl
@[simp] theorem State.setCont_cpre1 (s : State) (v : Byte) : (s.setCont v).cpre1 = s.cpre1 := rfl
@[simp] theorem State.setCont_p6 (s : State) (v : Byte) : (s.setCont v).p6 = s.p6 := rfl
@[simp] theorem State.setCont_p7 (s : State) (v : Byte) : (s.setCont v).p7 = s.p7 := rfl
@[simp] theorem State.setCont_p8 (s : State) (v : Byte) : (s.setCont v).p8 = s.p8 := rfl
@[simp] theorem State.setCont_p9 (s : State) (v : Byte) : (s.setCont v).p9 = s.p9 := rfl
@[simp] theorem State.setCont_ra (s : State) (v : Byte) : (s.setCont v).ra = s.ra := rfl
@[simp] theorem State.setCont_lpd (s : State) (v : Byte) : (s.setCont v).lpd = s.lpd := rfl
@[simp] theorem State.setCont_vdd (s : State) (v : Byte) : (s.setCont v).vdd = s.vdd := rfl
@[simp] theorem State.setCont_rb (s : State) (v : Byte) : (s.setCont v).rb = s.rb := rfl
@[simp] theorem State.setCont_rc (s : State) (v : Byte) : (s.setCont v).rc = s.rc := rfl
@[simp] theorem State.setCont_rd (s : State) (v : Byte) : (s.setCont v).rd = s.rd := rfl
@[simp] theorem State.setCont_rf (s : State) (v : Byte) : (s.setCont v).rf = s.rf := rfl
@[simp] theorem State.setCont_r10 (s : State) (v : Byte) : (s.setCont v).r10 = s.r10 := rfl
@[simp] theorem State.setCont_r11 (s : State) (v : Byte) : (s.setCont v).r11 = s.r11 := rfl
@[simp] theorem State.setCont_ioca (s : State) (v : Byte) : (s.setCont v).ioca = s.ioca := rfl
@[simp] theorem State.setCont_iocb (s : State) (v : Byte) : (s.setCont v).iocb = s.iocb := rfl
@[simp] theorem State.setCont_iocc (s : State) (v : Byte) : (s.setCont v).iocc = s.iocc := rfl
@[simp] theorem State.setCont_iocd (s : State) (v : Byte) : (s.setCont v).iocd = s.iocd := rfl
@[simp] theorem State.setCont_ioce (s : State) (v : Byte) : (s.setCont v).ioce = s.ioce := rfl
@[simp] theorem State.setCont_iocf (s : State) (v : Byte) : (s.setCont v).iocf = s.iocf := rfl
@[simp] theorem State.setCont_mem (s : State) (v : Byte) : (s.setCont v).mem = s.mem := rfl
@[simp] theorem State.setCont_cfg (s : State) (v : Byte) : (s.setCont v).cfg = s.cfg := rfl
@[simp] theorem State.setCont_agenda (s : State) (v : Byte) : (s.setCont v).agenda = s.agenda := rfl
@[simp] theorem State.setCont_draws (s : State) (v : Byte) : (s.setCont v).draws = s.draws := rfl
@[simp] theorem State.setCont_setCont (s : State) (u v : Byte) : (s.setCont u).setCont v = s.setCont v := rfl
@[simp] theorem State.setCont_self (s : State) : s.setCont s.cont = s := rfl

/-! ### setPre -/

@[simp] theorem State.setPre_a (s : State) (v : Byte) : (s.setPre v).a = s.a := rfl
@[simp] theorem State.setPre_pc (s : State) (v : Byte) : (s.setPre v).pc = s.pc := rfl
@[simp] theorem State.setPre_stack (s : State) (v : Byte) : (s.setPre v).stack = s.stack := rfl
@[simp] theorem State.setPre_ie (s : State) (v : Byte) : (s.setPre v).ie = s.ie := rfl
@[simp] theorem State.setPre_r3 (s : State) (v : Byte) : (s.setPre v).r3 = s.r3 := rfl
@[simp] theorem State.setPre_r4 (s : State) (v : Byte) : (s.setPre v).r4 = s.r4 := rfl
@[simp] theorem State.setPre_r5 (s : State) (v : Byte) : (s.setPre v).r5 = s.r5 := rfl
@[simp] theorem State.setPre_run (s : State) (v : Byte) : (s.setPre v).run = s.run := rfl
@[simp] theorem State.setPre_resetLow (s : State) (v : Byte) : (s.setPre v).resetLow = s.resetLow := rfl
@[simp] theorem State.setPre_irqHold (s : State) (v : Byte) : (s.setPre v).irqHold = s.irqHold := rfl
@[simp] theorem State.setPre_tcc (s : State) (v : Byte) : (s.setPre v).tcc = s.tcc := rfl
@[simp] theorem State.setPre_cont (s : State) (v : Byte) : (s.setPre v).cont = s.cont := rfl
@[simp] theorem State.setPre_pre (s : State) (v : Byte) : (s.setPre v).pre = v := rfl
@[simp] theorem State.setPre_wdt (s : State) (v : Byte) : (s.setPre v).wdt = s.wdt := rfl
@[simp] theorem State.setPre_cnt1 (s : State) (v : Byte) : (s.setPre v).cnt1 = s.cnt1 := rfl
@[simp] theorem State.setPre_cnt2 (s : State) (v : Byte) : (s.setPre v).cnt2 = s.cnt2 := rfl
@[simp] theorem State.setPre_cpre1 (s : State) (v : Byte) : (s.setPre v).cpre1 = s.cpre1 := rfl
@[simp] theorem State.setPre_p6 (s : State) (v : Byte) : (s.setPre v).p6 = s.p6 := rfl
@[simp] theorem State.setPre_p7 (s : State) (v : Byte) : (s.setPre v).p7 = s.p7 := rfl
@[simp] theorem State.setPre_p8 (s : State) (v : Byte) : (s.setPre v).p8 = s.p8 := rfl
@[simp] theorem State.setPre_p9 (s : State) (v : Byte) : (s.setPre v).p9 = s.p9 := rfl
@[simp] theorem State.setPre_ra (s : State) (v : Byte) : (s.setPre v).ra = s.ra := rfl
@[simp] theorem State.setPre_lpd (s : State) (v : Byte) : (s.setPre v).lpd = s.lpd := rfl
@[simp] theorem State.setPre_vdd (s : State) (v : Byte) : (s.setPre v).vdd = s.vdd := rfl
@[simp] theorem State.setPre_rb (s : State) (v : Byte) : (s.setPre v).rb = s.rb := rfl
@[simp] theorem State.setPre_rc (s : State) (v : Byte) : (s.setPre v).rc = s.rc := rfl
@[simp] theorem State.setPre_rd (s : State) (v : Byte) : (s.setPre v).rd = s.rd := rfl
@[simp] theorem State.setPre_rf (s : State) (v : Byte) : (s.setPre v).rf = s.rf := rfl
@[simp] theorem State.setPre_r10 (s : State) (v : Byte) : (s.setPre v).r10 = s.r10 := rfl
@[simp] theorem State.setPre_r11 (s : State) (v : Byte) : (s.setPre v).r11 = s.r11 := rfl
@[simp] theorem State.setPre_ioca (s : State) (v : Byte) : (s.setPre v).ioca = s.ioca := rfl
@[simp] theorem State.setPre_iocb (s : State) (v : Byte) : (s.setPre v).iocb = s.iocb := rfl
@[simp] theorem State.setPre_iocc (s : State) (v : Byte) : (s.setPre v).iocc = s.iocc := rfl
@[simp] theorem State.setPre_iocd (s : State) (v : Byte) : (s.setPre v).iocd = s.iocd := rfl
@[simp] theorem State.setPre_ioce (s : State) (v : Byte) : (s.setPre v).ioce = s.ioce := rfl
@[simp] theorem State.setPre_iocf (s : State) (v : Byte) : (s.setPre v).iocf = s.iocf := rfl
@[simp] theorem State.setPre_mem (s : State) (v : Byte) : (s.setPre v).mem = s.mem := rfl
@[simp] theorem State.setPre_cfg (s : State) (v : Byte) : (s.setPre v).cfg = s.cfg := rfl
@[simp] theorem State.setPre_agenda (s : State) (v : Byte) : (s.setPre v).agenda = s.agenda := rfl
@[simp] theorem State.setPre_draws (s : State) (v : Byte) : (s.setPre v).draws = s.draws := rfl
@[simp] theorem State.setPre_setPre (s : State) (u v : Byte) : (s.setPre u).setPre v = s.setPre v := rfl
@[simp] theorem State.setPre_self (s : State) : s.setPre s.pre = s := rfl

/-! ### setWdt -/

@[simp] theorem State.setWdt_a (s : State) (v : Nat) : (s.setWdt v).a = s.a := rfl
@[simp] theorem State.setWdt_pc (s : State) (v : Nat) : (s.setWdt v).pc = s.pc := rfl
@[simp] theorem State.setWdt_stack (s : State) (v : Nat) : (s.setWdt v).stack = s.stack := rfl
@[simp] theorem State.setWdt_ie (s : State) (v : Nat) : (s.setWdt v).ie = s.ie := rfl
@[simp] theorem State.setWdt_r3 (s : State) (v : Nat) : (s.setWdt v).r3 = s.r3 := rfl
@[simp] theorem State.setWdt_r4 (s : State) (v : Nat) : (s.setWdt v).r4 = s.r4 := rfl
@[simp] theorem State.setWdt_r5 (s : State) (v : Nat) : (s.setWdt v).r5 = s.r5 := rfl
@[simp] theorem State.setWdt_run (s : State) (v : Nat) : (s.setWdt v).run = s.run := rfl
@[simp] theorem State.setWdt_resetLow (s : State) (v : Nat) : (s.setWdt v).resetLow = s.resetLow := rfl
@[simp] theorem State.setWdt_irqHold (s : State) (v : Nat) : (s.setWdt v).irqHold = s.irqHold := rfl
@[simp] theorem State.setWdt_tcc (s : State) (v : Nat) : (s.setWdt v).tcc = s.tcc := rfl
@[simp] theorem State.setWdt_cont (s : State) (v : Nat) : (s.setWdt v).cont = s.cont := rfl
@[simp] theorem State.setWdt_pre (s : State) (v : Nat) : (s.setWdt v).pre = s.pre := rfl
@[simp] theorem State.setWdt_wdt (s : State) (v : Nat) : (s.setWdt v).wdt = v := rfl
@[simp] theorem State.setWdt_cnt1 (s : State) (v : Nat) : (s.setWdt v).cnt1 = s.cnt1 := rfl
@[simp] theorem State.setWdt_cnt2 (s : State) (v : Nat) : (s.setWdt v).cnt2 = s.cnt2 := rfl
@[simp] theorem State.setWdt_cpre1 (s : State) (v : Nat) : (s.setWdt v).cpre1 = s.cpre1 := rfl
@[simp] theorem State.setWdt_p6 (s : State) (v : Nat) : (s.setWdt v).p6 = s.p6 := rfl
@[simp] theorem State.setWdt_p7 (s : State) (v : Nat) : (s.setWdt v).p7 = s.p7 := rfl
@[simp] theorem State.setWdt_p8 (s : State) (v : Nat) : (s.setWdt v).p8 = s.p8 := rfl
@[simp] theorem State.setWdt_p9 (s : State) (v : Nat) : (s.setWdt v).p9 = s.p9 := rfl
@[simp] theorem State.setWdt_ra (s : State) (v : Nat) : (s.setWdt v).ra = s.ra := rfl
@[simp] theorem State.setWdt_lpd (s : State) (v : Nat) : (s.setWdt v).lpd = s.lpd := rfl
@[simp] theorem State.setWdt_vdd (s : State) (v : Nat) : (s.setWdt v).vdd = s.vdd := rfl
@[simp] theorem State.setWdt_rb (s : State) (v : Nat) : (s.setWdt v).rb = s.rb := rfl
@[simp] theorem State.setWdt_rc (s : State) (v : Nat) : (s.setWdt v).rc = s.rc := rfl
@[simp] theorem State.setWdt_rd (s : State) (v : Nat) : (s.setWdt v).rd = s.rd := rfl
@[simp] theorem State.setWdt_rf (s : State) (v : Nat) : (s.setWdt v).rf = s.rf := rfl
@[simp] theorem State.setWdt_r10 (s : State) (v : Nat) : (s.setWdt v).r10 = s.r10 := rfl
@[simp] theorem State.setWdt_r11 (s : State) (v : Nat) : (s.setWdt v).r11 = s.r11 := rfl
@[simp] theorem State.setWdt_ioca (s : State) (v : Nat) : (s.setWdt v).ioca = s.ioca := rfl
@[simp] theorem State.setWdt_iocb (s : State) (v : Nat) : (s.setWdt v).iocb = s.iocb := rfl
@[simp] theorem State.setWdt_iocc (s : State) (v : Nat) : (s.setWdt v).iocc = s.iocc := rfl
@[simp] theorem State.setWdt_iocd (s : State) (v : Nat) : (s.setWdt v).iocd = s.iocd := rfl
@[simp] theorem State.setWdt_ioce (s : State) (v : Nat) : (s.setWdt v).ioce = s.ioce := rfl
@[simp] theorem State.setWdt_iocf (s : State) (v : Nat) : (s.setWdt v).iocf = s.iocf := rfl
@[simp] theorem State.setWdt_mem (s : State) (v : Nat) : (s.setWdt v).mem = s.mem := rfl
@[simp] theorem State.setWdt_cfg (s : State) (v : Nat) : (s.setWdt v).cfg = s.cfg := rfl
@[simp] theorem State.setWdt_agenda (s : State) (v : Nat) : (s.setWdt v).agenda = s.agenda := rfl
@[simp] theorem State.setWdt_draws (s : State) (v : Nat) : (s.setWdt v).draws = s.draws := rfl
@[simp] theorem State.setWdt_setWdt (s : State) (u v : Nat) : (s.setWdt u).setWdt v = s.setWdt v := rfl
@[simp] theorem State.setWdt_self (s : State) : s.setWdt s.wdt = s := rfl

/-! ### setRf -/

@[simp] theorem State.setRf_a (s : State) (v : BitVec 7) : (s.setRf v).a = s.a := rfl
@[simp] theorem State.setRf_pc (s : State) (v : BitVec 7) : (s.setRf v).pc = s.pc := rfl
@[simp] theorem State.setRf_stack (s : State) (v : BitVec 7) : (s.setRf v).stack = s.stack := rfl
@[simp] theorem State.setRf_ie (s : State) (v : BitVec 7) : (s.setRf v).ie = s.ie := rfl
@[simp] theorem State.setRf_r3 (s : State) (v : BitVec 7) : (s.setRf v).r3 = s.r3 := rfl
@[simp] theorem State.setRf_r4 (s : State) (v : BitVec 7) : (s.setRf v).r4 = s.r4 := rfl
@[simp] theorem State.setRf_r5 (s : State) (v : BitVec 7) : (s.setRf v).r5 = s.r5 := rfl
@[simp] theorem State.setRf_run (s : State) (v : BitVec 7) : (s.setRf v).run = s.run := rfl
@[simp] theorem State.setRf_resetLow (s : State) (v : BitVec 7) : (s.setRf v).resetLow = s.resetLow := rfl
@[simp] theorem State.setRf_irqHold (s : State) (v : BitVec 7) : (s.setRf v).irqHold = s.irqHold := rfl
@[simp] theorem State.setRf_tcc (s : State) (v : BitVec 7) : (s.setRf v).tcc = s.tcc := rfl
@[simp] theorem State.setRf_cont (s : State) (v : BitVec 7) : (s.setRf v).cont = s.cont := rfl
@[simp] theorem State.setRf_pre (s : State) (v : BitVec 7) : (s.setRf v).pre = s.pre := rfl
@[simp] theorem State.setRf_wdt (s : State) (v : BitVec 7) : (s.setRf v).wdt = s.wdt := rfl
@[simp] theorem State.setRf_cnt1 (s : State) (v : BitVec 7) : (s.setRf v).cnt1 = s.cnt1 := rfl
@[simp] theorem State.setRf_cnt2 (s : State) (v : BitVec 7) : (s.setRf v).cnt2 = s.cnt2 := rfl
@[simp] theorem State.setRf_cpre1 (s : State) (v : BitVec 7) : (s.setRf v).cpre1 = s.cpre1 := rfl
@[simp] theorem State.setRf_p6 (s : State) (v : BitVec 7) : (s.setRf v).p6 = s.p6 := rfl
@[simp] theorem State.setRf_p7 (s : State) (v : BitVec 7) : (s.setRf v).p7 = s.p7 := rfl
@[simp] theorem State.setRf_p8 (s : State) (v : BitVec 7) : (s.setRf v).p8 = s.p8 := rfl
@[simp] theorem State.setRf_p9 (s : State) (v : BitVec 7) : (s.setRf v).p9 = s.p9 := rfl
@[simp] theorem State.setRf_ra (s : State) (v : BitVec 7) : (s.setRf v).ra = s.ra := rfl
@[simp] theorem State.setRf_lpd (s : State) (v : BitVec 7) : (s.setRf v).lpd = s.lpd := rfl
@[simp] theorem State.setRf_vdd (s : State) (v : BitVec 7) : (s.setRf v).vdd = s.vdd := rfl
@[simp] theorem State.setRf_rb (s : State) (v : BitVec 7) : (s.setRf v).rb = s.rb := rfl
@[simp] theorem State.setRf_rc (s : State) (v : BitVec 7) : (s.setRf v).rc = s.rc := rfl
@[simp] theorem State.setRf_rd (s : State) (v : BitVec 7) : (s.setRf v).rd = s.rd := rfl
@[simp] theorem State.setRf_rf (s : State) (v : BitVec 7) : (s.setRf v).rf = v := rfl
@[simp] theorem State.setRf_r10 (s : State) (v : BitVec 7) : (s.setRf v).r10 = s.r10 := rfl
@[simp] theorem State.setRf_r11 (s : State) (v : BitVec 7) : (s.setRf v).r11 = s.r11 := rfl
@[simp] theorem State.setRf_ioca (s : State) (v : BitVec 7) : (s.setRf v).ioca = s.ioca := rfl
@[simp] theorem State.setRf_iocb (s : State) (v : BitVec 7) : (s.setRf v).iocb = s.iocb := rfl
@[simp] theorem State.setRf_iocc (s : State) (v : BitVec 7) : (s.setRf v).iocc = s.iocc := rfl
@[simp] theorem State.setRf_iocd (s : State) (v : BitVec 7) : (s.setRf v).iocd = s.iocd := rfl
@[simp] theorem State.setRf_ioce (s : State) (v : BitVec 7) : (s.setRf v).ioce = s.ioce := rfl
@[simp] theorem State.setRf_iocf (s : State) (v : BitVec 7) : (s.setRf v).iocf = s.iocf := rfl
@[simp] theorem State.setRf_mem (s : State) (v : BitVec 7) : (s.setRf v).mem = s.mem := rfl
@[simp] theorem State.setRf_cfg (s : State) (v : BitVec 7) : (s.setRf v).cfg = s.cfg := rfl
@[simp] theorem State.setRf_agenda (s : State) (v : BitVec 7) : (s.setRf v).agenda = s.agenda := rfl
@[simp] theorem State.setRf_draws (s : State) (v : BitVec 7) : (s.setRf v).draws = s.draws := rfl
@[simp] theorem State.setRf_setRf (s : State) (u v : BitVec 7) : (s.setRf u).setRf v = s.setRf v := rfl
@[simp] theorem State.setRf_self (s : State) : s.setRf s.rf = s := rfl

/-! ### setMem -/

@[simp] theorem State.setMem_a (s : State) (v : Memory) : (s.setMem v).a = s.a := rfl
@[simp] theorem State.setMem_pc (s : State) (v : Memory) : (s.setMem v).pc = s.pc := rfl
@[simp] theorem State.setMem_stack (s : State) (v : Memory) : (s.setMem v).stack = s.stack := rfl
@[simp] theorem State.setMem_ie (s : State) (v : Memory) : (s.setMem v).ie = s.ie := rfl
@[simp] theorem State.setMem_r3 (s : State) (v : Memory) : (s.setMem v).r3 = s.r3 := rfl
@[simp] theorem State.setMem_r4 (s : State) (v : Memory) : (s.setMem v).r4 = s.r4 := rfl
@[simp] theorem State.setMem_r5 (s : State) (v : Memory) : (s.setMem v).r5 = s.r5 := rfl
@[simp] theorem State.setMem_run (s : State) (v : Memory) : (s.setMem v).run = s.run := rfl
@[simp] theorem State.setMem_resetLow (s : State) (v : Memory) : (s.setMem v).resetLow = s.resetLow := rfl
@[simp] theorem State.setMem_irqHold (s : State) (v : Memory) : (s.setMem v).irqHold = s.irqHold := rfl
@[simp] theorem State.setMem_tcc (s : State) (v : Memory) : (s.setMem v).tcc = s.tcc := rfl
@[simp] theorem State.setMem_cont (s : State) (v : Memory) : (s.setMem v).cont = s.cont := rfl
@[simp] theorem State.setMem_pre (s : State) (v : Memory) : (s.setMem v).pre = s.pre := rfl
@[simp] theorem State.setMem_wdt (s : State) (v : Memory) : (s.setMem v).wdt = s.wdt := rfl
@[simp] theorem State.setMem_cnt1 (s : State) (v : Memory) : (s.setMem v).cnt1 = s.cnt1 := rfl
@[simp] theorem State.setMem_cnt2 (s : State) (v : Memory) : (s.setMem v).cnt2 = s.cnt2 := rfl
@[simp] theorem State.setMem_cpre1 (s : State) (v : Memory) : (s.setMem v).cpre1 = s.cpre1 := rfl
@[simp] theorem State.setMem_p6 (s : State) (v : Memory) : (s.setMem v).p6 = s.p6 := rfl
@[simp] theorem State.setMem_p7 (s : State) (v : Memory) : (s.setMem v).p7 = s.p7 := rfl
@[simp] theorem State.setMem_p8 (s : State) (v : Memory) : (s.setMem v).p8 = s.p8 := rfl
@[simp] theorem State.setMem_p9 (s : State) (v : Memory) : (s.setMem v).p9 = s.p9 := rfl
@[simp] theorem State.setMem_ra (s : State) (v : Memory) : (s.setMem v).ra = s.ra := rfl
@[simp] theorem State.setMem_lpd (s : State) (v : Memory) : (s.setMem v).lpd = s.lpd := rfl
@[simp] theorem State.setMem_vdd (s : State) (v : Memory) : (s.setMem v).vdd = s.vdd := rfl
@[simp] theorem State.setMem_rb (s : State) (v : Memory) : (s.setMem v).rb = s.rb := rfl
@[simp] theorem State.setMem_rc (s : State) (v : Memory) : (s.setMem v).rc = s.rc := rfl
@[simp] theorem State.setMem_rd (s : State) (v : Memory) : (s.setMem v).rd = s.rd := rfl
@[simp] theorem State.setMem_rf (s : State) (v : Memory) : (s.setMem v).rf = s.rf := rfl
@[simp] theorem State.setMem_r10 (s : State) (v : Memory) : (s.setMem v).r10 = s.r10 := rfl
@[simp] theorem State.setMem_r11 (s : State) (v : Memory) : (s.setMem v).r11 = s.r11 := rfl
@[simp] theorem State.setMem_ioca (s : State) (v : Memory) : (s.setMem v).ioca = s.ioca := rfl
@[simp] theorem State.setMem_iocb (s : State) (v : Memory) : (s.setMem v).iocb = s.iocb := rfl
@[simp] theorem State.setMem_iocc (s : State) (v : Memory) : (s.setMem v).iocc = s.iocc := rfl
@[simp] theorem State.setMem_iocd (s : State) (v : Memory) : (s.setMem v).iocd = s.iocd := rfl
@[simp] theorem State.setMem_ioce (s : State) (v : Memory) : (s.setMem v).ioce = s.ioce := rfl
@[simp] theorem State.setMem_iocf (s : State) (v : Memory) : (s.setMem v).iocf = s.iocf := rfl
@[simp] theorem State.setMem_mem (s : State) (v : Memory) : (s.setMem v).mem = v := rfl
@[simp] theorem State.setMem_cfg (s : State) (v : Memory) : (s.setMem v).cfg = s.cfg := rfl
@[simp] theorem State.setMem_agenda (s : State) (v : Memory) : (s.setMem v).agenda = s.agenda := rfl
@[simp] theorem State.setMem_draws (s : State) (v : Memory) : (s.setMem v).draws = s.draws := rfl
@[simp] theorem State.setMem_setMem (s : State) (u v : Memory) : (s.setMem u).setMem v = s.setMem v := rfl
@[simp] theorem State.setMem_self (s : State) : s.setMem s.mem = s := rfl

/-! ### setAgenda -/

@[simp] theorem State.setAgenda_a (s : State) (v : List Turn) : (s.setAgenda v).a = s.a := rfl
@[simp] theorem State.setAgenda_pc (s : State) (v : List Turn) : (s.setAgenda v).pc = s.pc := rfl
@[simp] theorem State.setAgenda_stack (s : State) (v : List Turn) : (s.setAgenda v).stack = s.stack := rfl
@[simp] theorem State.setAgenda_ie (s : State) (v : List Turn) : (s.setAgenda v).ie = s.ie := rfl
@[simp] theorem State.setAgenda_r3 (s : State) (v : List Turn) : (s.setAgenda v).r3 = s.r3 := rfl
@[simp] theorem State.setAgenda_r4 (s : State) (v : List Turn) : (s.setAgenda v).r4 = s.r4 := rfl
@[simp] theorem State.setAgenda_r5 (s : State) (v : List Turn) : (s.setAgenda v).r5 = s.r5 := rfl
@[simp] theorem State.setAgenda_run (s : State) (v : List Turn) : (s.setAgenda v).run = s.run := rfl
@[simp] theorem State.setAgenda_resetLow (s : State) (v : List Turn) : (s.setAgenda v).resetLow = s.resetLow := rfl
@[simp] theorem State.setAgenda_irqHold (s : State) (v : List Turn) : (s.setAgenda v).irqHold = s.irqHold := rfl
@[simp] theorem State.setAgenda_tcc (s : State) (v : List Turn) : (s.setAgenda v).tcc = s.tcc := rfl
@[simp] theorem State.setAgenda_cont (s : State) (v : List Turn) : (s.setAgenda v).cont = s.cont := rfl
@[simp] theorem State.setAgenda_pre (s : State) (v : List Turn) : (s.setAgenda v).pre = s.pre := rfl
@[simp] theorem State.setAgenda_wdt (s : State) (v : List Turn) : (s.setAgenda v).wdt = s.wdt := rfl
@[simp] theorem State.setAgenda_cnt1 (s : State) (v : List Turn) : (s.setAgenda v).cnt1 = s.cnt1 := rfl
@[simp] theorem State.setAgenda_cnt2 (s : State) (v : List Turn) : (s.setAgenda v).cnt2 = s.cnt2 := rfl
@[simp] theorem State.setAgenda_cpre1 (s : State) (v : List Turn) : (s.setAgenda v).cpre1 = s.cpre1 := rfl
@[simp] theorem State.setAgenda_p6 (s : State) (v : List Turn) : (s.setAgenda v).p6 = s.p6 := rfl
@[simp] theorem State.setAgenda_p7 (s : State) (v : List Turn) : (s.setAgenda v).p7 = s.p7 := rfl
@[simp] theorem State.setAgenda_p8 (s : State) (v : List Turn) : (s.setAgenda v).p8 = s.p8 := rfl
@[simp] theorem State.setAgenda_p9 (s : State) (v : List Turn) : (s.setAgenda v).p9 = s.p9 := rfl
@[simp] theorem State.setAgenda_ra (s : State) (v : List Turn) : (s.setAgenda v).ra = s.ra := rfl
@[simp] theorem State.setAgenda_lpd (s : State) (v : List Turn) : (s.setAgenda v).lpd = s.lpd := rfl
@[simp] theorem State.setAgenda_vdd (s : State) (v : List Turn) : (s.setAgenda v).vdd = s.vdd := rfl
@[simp] theorem State.setAgenda_rb (s : State) (v : List Turn) : (s.setAgenda v).rb = s.rb := rfl
@[simp] theorem State.setAgenda_rc (s : State) (v : List Turn) : (s.setAgenda v).rc = s.rc := rfl
@[simp] theorem State.setAgenda_rd (s : State) (v : List Turn) : (s.setAgenda v).rd = s.rd := rfl
@[simp] theorem State.setAgenda_rf (s : State) (v : List Turn) : (s.setAgenda v).rf = s.rf := rfl
@[simp] theorem State.setAgenda_r10 (s : State) (v : List Turn) : (s.setAgenda v).r10 = s.r10 := rfl
@[simp] theorem State.setAgenda_r11 (s : State) (v : List Turn) : (s.setAgenda v).r11 = s.r11 := rfl
@[simp] theorem State.setAgenda_ioca (s : State) (v : List Turn) : (s.setAgenda v).ioca = s.ioca := rfl
@[simp] theorem State.setAgenda_iocb (s : State) (v : List Turn) : (s.setAgenda v).iocb = s.iocb := rfl
@[simp] theorem State.setAgenda_iocc (s : State) (v : List Turn) : (s.setAgenda v).iocc = s.iocc := rfl
@[simp] theorem State.setAgenda_iocd (s : State) (v : List Turn) : (s.setAgenda v).iocd = s.iocd := rfl
@[simp] theorem State.setAgenda_ioce (s : State) (v : List Turn) : (s.setAgenda v).ioce = s.ioce := rfl
@[simp] theorem State.setAgenda_iocf (s : State) (v : List Turn) : (s.setAgenda v).iocf = s.iocf := rfl
@[simp] theorem State.setAgenda_mem (s : State) (v : List Turn) : (s.setAgenda v).mem = s.mem := rfl
@[simp] theorem State.setAgenda_cfg (s : State) (v : List Turn) : (s.setAgenda v).cfg = s.cfg := rfl
@[simp] theorem State.setAgenda_agenda (s : State) (v : List Turn) : (s.setAgenda v).agenda = v := rfl
@[simp] theorem State.setAgenda_draws (s : State) (v : List Turn) : (s.setAgenda v).draws = s.draws := rfl
@[simp] theorem State.setAgenda_setAgenda (s : State) (u v : List Turn) : (s.setAgenda u).setAgenda v = s.setAgenda v := rfl
@[simp] theorem State.setAgenda_self (s : State) : s.setAgenda s.agenda = s := rfl

/-! ### setDraws -/

@[simp] theorem State.setDraws_a (s : State) (v : Nat) : (s.setDraws v).a = s.a := rfl
@[simp] theorem State.setDraws_pc (s : State) (v : Nat) : (s.setDraws v).pc = s.pc := rfl
@[simp] theorem State.setDraws_stack (s : State) (v : Nat) : (s.setDraws v).stack = s.stack := rfl
@[simp] theorem State.setDraws_ie (s : State) (v : Nat) : (s.setDraws v).ie = s.ie := rfl
@[simp] theorem State.setDraws_r3 (s : State) (v : Nat) : (s.setDraws v).r3 = s.r3 := rfl
@[simp] theorem State.setDraws_r4 (s : State) (v : Nat) : (s.setDraws v).r4 = s.r4 := rfl
@[simp] theorem State.setDraws_r5 (s : State) (v : Nat) : (s.setDraws v).r5 = s.r5 := rfl
@[simp] theorem State.setDraws_run (s : State) (v : Nat) : (s.setDraws v).run = s.run := rfl
@[simp] theorem State.setDraws_resetLow (s : State) (v : Nat) : (s.setDraws v).resetLow = s.resetLow := rfl
@[simp] theorem State.setDraws_irqHold (s : State) (v : Nat) : (s.setDraws v).irqHold = s.irqHold := rfl
@[simp] theorem State.setDraws_tcc (s : State) (v : Nat) : (s.setDraws v).tcc = s.tcc := rfl
@[simp] theorem State.setDraws_cont (s : State) (v : Nat) : (s.setDraws v).cont = s.cont := rfl
@[simp] theorem State.setDraws_pre (s : State) (v : Nat) : (s.setDraws v).pre = s.pre := rfl
@[simp] theorem State.setDraws_wdt (s : State) (v : Nat) : (s.setDraws v).wdt = s.wdt := rfl
@[simp] theorem State.setDraws_cnt1 (s : State) (v : Nat) : (s.setDraws v).cnt1 = s.cnt1 := rfl
@[simp] theorem State.setDraws_cnt2 (s : State) (v : Nat) : (s.setDraws v).cnt2 = s.cnt2 := rfl
@[simp] theorem State.setDraws_cpre1 (s : State) (v : Nat) : (s.setDraws v).cpre1 = s.cpre1 := rfl
@[simp] theorem State.setDraws_p6 (s : State) (v : Nat) : (s.setDraws v).p6 = s.p6 := rfl
@[simp] theorem State.setDraws_p7 (s : State) (v : Nat) : (s.setDraws v).p7 = s.p7 := rfl
@[simp] theorem State.setDraws_p8 (s : State) (v : Nat) : (s.setDraws v).p8 = s.p8 := rfl
@[simp] theorem State.setDraws_p9 (s : State) (v : Nat) : (s.setDraws v).p9 = s.p9 := rfl
@[simp] theorem State.setDraws_ra (s : State) (v : Nat) : (s.setDraws v).ra = s.ra := rfl
@[simp] theorem State.setDraws_lpd (s : State) (v : Nat) : (s.setDraws v).lpd = s.lpd := rfl
@[simp] theorem State.setDraws_vdd (s : State) (v : Nat) : (s.setDraws v).vdd = s.vdd := rfl
@[simp] theorem State.setDraws_rb (s : State) (v : Nat) : (s.setDraws v).rb = s.rb := rfl
@[simp] theorem State.setDraws_rc (s : State) (v : Nat) : (s.setDraws v).rc = s.rc := rfl
@[simp] theorem State.setDraws_rd (s : State) (v : Nat) : (s.setDraws v).rd = s.rd := rfl
@[simp] theorem State.setDraws_rf (s : State) (v : Nat) : (s.setDraws v).rf = s.rf := rfl
@[simp] theorem State.setDraws_r10 (s : State) (v : Nat) : (s.setDraws v).r10 = s.r10 := rfl
@[simp] theorem State.setDraws_r11 (s : State) (v : Nat) : (s.setDraws v).r11 = s.r11 := rfl
@[simp] theorem State.setDraws_ioca (s : State) (v : Nat) : (s.setDraws v).ioca = s.ioca := rfl
@[simp] theorem State.setDraws_iocb (s : State) (v : Nat) : (s.setDraws v).iocb = s.iocb := rfl
@[simp] theorem State.setDraws_iocc (s : State) (v : Nat) : (s.setDraws v).iocc = s.iocc := rfl
@[simp] theorem State.setDraws_iocd (s : State) (v : Nat) : (s.setDraws v).iocd = s.iocd := rfl
@[simp] theorem State.setDraws_ioce (s : State) (v : Nat) : (s.setDraws v).ioce = s.ioce := rfl
@[simp] theorem State.setDraws_iocf (s : State) (v : Nat) : (s.setDraws v).iocf = s.iocf := rfl
@[simp] theorem State.setDraws_mem (s : State) (v : Nat) : (s.setDraws v).mem = s.mem := rfl
@[simp] theorem State.setDraws_cfg (s : State) (v : Nat) : (s.setDraws v).cfg = s.cfg := rfl
@[simp] theorem State.setDraws_agenda (s : State) (v : Nat) : (s.setDraws v).agenda = s.agenda := rfl
@[simp] theorem State.setDraws_draws (s : State) (v : Nat) : (s.setDraws v).draws = v := rfl
@[simp] theorem State.setDraws_setDraws (s : State) (u v : Nat) : (s.setDraws u).setDraws v = s.setDraws v := rfl
@[simp] theorem State.setDraws_self (s : State) : s.setDraws s.draws = s := rfl

end Sys2Proof.Machine
end

