-- ==== Sys2Proof/Laws/Ops.lean ====
section
/-! SUPPORT. For each shared operation, once, what it can do: the shape of its state where it answers one. -/

namespace Sys2Proof.Machine

/-! ### Sequencing -/

@[simp] theorem andThen_next {α β : Type} (x : α) (k : α → Host.Outcome β Fault Refusal) :
    andThen (.next x) k = k x := rfl

@[simp] theorem andThen_fault {α β : Type} (r : Fault) (k : α → Host.Outcome β Fault Refusal) :
    andThen (.fault r) k = .fault r := rfl

@[simp] theorem andThen_refused {α β : Type} (r : Refusal) (k : α → Host.Outcome β Fault Refusal) :
    andThen (.refused r) k = .refused r := rfl

theorem andThen_eq_next {α β : Type} {o : Host.Outcome α Fault Refusal} {k : α → Host.Outcome β Fault Refusal} {y : β} :
    andThen o k = .next y ↔ ∃ x, o = .next x ∧ k x = .next y := by
  cases o <;> simp [andThen]

/-! ### Program counter and stack -/

theorem advance_eq_next {s t : State} : advance s = .next t ↔ s.pc ≠ 0x7FFF#15 ∧ t = s.setPc s.nextPc := by
  unfold advance
  split <;> simp_all [eq_comm]

theorem skip_eq_next {s t : State} : skip s = .next t ↔ s.pc.toNat < 0x7FFE ∧ t = s.setPc (s.pc + 2) := by
  unfold skip
  split <;> simp_all [eq_comm]

theorem skipIf_eq_next {c : Bool} {s t : State} :
    skipIf c s = .next t ↔
      (c = true ∧ s.pc.toNat < 0x7FFE ∧ t = s.setPc (s.pc + 2)) ∨
      (c = false ∧ s.pc ≠ 0x7FFF#15 ∧ t = s.setPc s.nextPc) := by
  cases c <;> simp [skipIf, skip_eq_next, advance_eq_next]

theorem push_eq_next {v : Addr} {s t : State} :
    push v s = .next t ↔ s.stack.length < 8 ∧ t = s.setStack (v :: s.stack) := by
  unfold push
  split
  · simp; omega
  · simp [eq_comm]; omega

theorem pushNext_eq_next {s t : State} :
    pushNext s = .next t ↔ s.pc ≠ 0x7FFF#15 ∧ s.stack.length < 8 ∧ t = s.setStack (s.nextPc :: s.stack) := by
  unfold pushNext
  split
  · simp [*]
  · simp [*, push_eq_next]

theorem pop_eq_next {s : State} {p : Addr × State} :
    pop s = .next p ↔ ∃ v rest, s.stack = v :: rest ∧ p = (v, s.setStack rest) := by
  unfold pop
  split <;> simp_all [eq_comm]

theorem returnToTop_eq_next {s t : State} :
    returnToTop s = .next t ↔ ∃ v rest, s.stack = v :: rest ∧ t = (s.setStack rest).setPc v := by
  simp only [returnToTop, andThen_eq_next, pop_eq_next]
  constructor
  · rintro ⟨_, ⟨v, rest, h, rfl⟩, ht⟩
    exact ⟨v, rest, h, by simpa using ht.symm⟩
  · rintro ⟨v, rest, h, rfl⟩
    exact ⟨_, ⟨v, rest, h, rfl⟩, rfl⟩

/-- Interrupt entry: it needs room on the stack and changes the stack, `pc` and `IE` only (R334). -/
theorem interruptEntry_eq_next {s t : State} :
    interruptEntry s = .next t ↔ s.stack.length < 8 ∧
      t = ((s.setStack (s.pc :: s.stack)).setPc 0x0008#15).setIe (if s.cfg.intEntryClearsIe then false else s.ie) := by
  simp only [interruptEntry, andThen_eq_next, push_eq_next]
  constructor
  · rintro ⟨_, ⟨h, rfl⟩, ht⟩
    exact ⟨h, by simpa using ht.symm⟩
  · rintro ⟨h, rfl⟩
    exact ⟨_, ⟨h, rfl⟩, rfl⟩

theorem fetch_eq_next {s : State} {w : Word} : fetch s = .next w ↔ s.mem.romRead s.pc.toNat = some w := by
  unfold fetch
  split <;> simp_all

/-! ### Operands -/

theorem resolve_eq_next {r : Designator} {s : State} {c : Cell} :
    resolve r s = .next c ↔ cellOf (effective r s) s = some c := by
  unfold resolve
  split <;> simp_all

/-- A read gives the value the state holds, or that value with its open bits drawn; only the count of draws
changes (R115). -/
theorem readCell_eq_next {care : Byte} {c : Cell} {s : State} {p : Byte × State} :
    readCell care c s = .next p ↔ ∃ k o, peekCell c s = .next (k, o) ∧
      ((o &&& care = 0#8 ∧ p = (k, s)) ∨
       (o &&& care ≠ 0#8 ∧ p = (mixBits k o (s.freeByte 0), s.drew 1))) := by
  simp only [readCell, andThen_eq_next, Prod.exists]
  refine exists_congr fun k => exists_congr fun o => and_congr_right fun _ => ?_
  split <;> simp_all [eq_comm]

/-- The state after a read is the state before it, or it with one draw more. -/
theorem readCell_state {care : Byte} {c : Cell} {s : State} {p : Byte × State} (h : readCell care c s = .next p) :
    p.2 = s ∨ p.2 = s.drew 1 := by
  obtain ⟨k, o, _, ⟨_, rfl⟩ | ⟨_, rfl⟩⟩ := readCell_eq_next.1 h
  · exact .inl rfl
  · exact .inr rfl

@[simp] theorem State.drew_a (s : State) (n : Nat) : (s.drew n).a = s.a := rfl
@[simp] theorem State.drew_pc (s : State) (n : Nat) : (s.drew n).pc = s.pc := rfl
@[simp] theorem State.drew_r3 (s : State) (n : Nat) : (s.drew n).r3 = s.r3 := rfl
@[simp] theorem State.drew_stack (s : State) (n : Nat) : (s.drew n).stack = s.stack := rfl
@[simp] theorem State.drew_mem (s : State) (n : Nat) : (s.drew n).mem = s.mem := rfl
@[simp] theorem State.drew_cfg (s : State) (n : Nat) : (s.drew n).cfg = s.cfg := rfl
@[simp] theorem State.drew_draws (s : State) (n : Nat) : (s.drew n).draws = s.draws + n := rfl

/-- A write changes neither `A`, `pc`, the stack, `IE`, the run state, the parameters nor the agenda. -/
theorem writeCell_keeps {c : Cell} {v : Byte} {s t : State} (h : writeCell c v s = .next t) :
    t.a = s.a ∧ t.pc = s.pc ∧ t.stack = s.stack ∧ t.ie = s.ie ∧ t.run = s.run ∧ t.resetLow = s.resetLow ∧
      t.irqHold = s.irqHold ∧ t.cfg = s.cfg ∧ t.agenda = s.agenda ∧ t.wdt = s.wdt ∧ t.draws = s.draws ∧
      t.iocf = s.iocf := by
  cases c with
  | pcl => cases h
  | re => cases h
  | r12 =>
    simp only [writeCell] at h
    split at h <;> cases h
    simp
  | port p => cases p <;> (cases h; simp [State.setPort])
  | _ => cases h; simp

/-- R3 changes through its own cell only. -/
theorem writeCell_status_ne {c : Cell} {v : Byte} {s t : State} (hc : c ≠ .status) (h : writeCell c v s = .next t) :
    t.r3 = s.r3 := by
  cases c with
  | status => exact absurd rfl hc
  | pcl => cases h
  | re => cases h
  | r12 =>
    simp only [writeCell] at h
    split at h <;> cases h
    simp
  | port p => cases p <;> (cases h; rfl)
  | _ => cases h; rfl

/-- A general register's key is inside the RAM (R104). -/
theorem gprKey_lt {split : BankSplit} {bank : BitVec 2} {e : Nat} (h : e < 64) : gprKey split bank e < 256 := by
  have := bank.isLt
  unfold gprKey
  split
  · omega
  · split <;> omega

/-- The key a designator gives is inside the RAM. -/
theorem cellOf_gpr_lt {e : Designator} {s : State} {k : Nat} (h : cellOf e s = some (.gpr k)) : k < 256 := by
  have he := e.isLt
  unfold cellOf at h
  split at h <;> simp at h
  exact h ▸ gprKey_lt he

theorem State.lcdAddress_lt (s : State) : s.lcdAddress < 4096 := (s.r11 ++ s.r10).isLt

/-- A write to a cell that a designator names keeps the memory's canonical form. -/
theorem writeCell_wf {c : Cell} {v : Byte} {s t : State} (hm : s.mem.wf) (hk : ∀ k, c = .gpr k → k < 256)
    (h : writeCell c v s = .next t) : t.mem.wf := by
  cases c with
  | pcl => cases h
  | re => cases h
  | r12 =>
    simp only [writeCell] at h
    split at h <;> cases h
    exact Memory.wf_lcdWrite v hm s.lcdAddress_lt
  | gpr k => cases h; exact Memory.wf_ramWrite v hm (hk k rfl)
  | port p => cases p <;> (cases h; exact hm)
  | _ => cases h; exact hm

/-! ### Instruction shapes -/

theorem resultToA_eq_next {r : Designator} {f : Byte → Alu} {s t : State} :
    resultToA r f s = .next t ↔ ∃ c v u, cellOf (effective r s) s = some c ∧ readCell allBits c s = .next (v, u) ∧
      u.pc ≠ 0x7FFF#15 ∧ t = ((u.setStatus ((f v).status u.r3)).setA (f v).val).setPc u.nextPc := by
  simp only [resultToA, andThen_eq_next, resolve_eq_next, advance_eq_next, Prod.exists]
  constructor
  · rintro ⟨c, hc, v, u, hu, hp, rfl⟩
    exact ⟨c, v, u, hc, hu, hp, rfl⟩
  · rintro ⟨c, v, u, hc, hu, hp, rfl⟩
    exact ⟨c, hc, v, u, hu, hp, rfl⟩

theorem resultToCell_eq_next {c : Cell} {f : Byte → Alu} {s t : State} :
    resultToCell c f s = .next t ↔ c ≠ .status ∧ ∃ v u w, readCell allBits c s = .next (v, u) ∧
      writeCell c (f v).val u = .next w ∧ w.pc ≠ 0x7FFF#15 ∧
      t = (w.setStatus ((f v).status w.r3)).setPc w.nextPc := by
  unfold resultToCell
  split
  · simp [*]
  · next hc =>
    simp only [andThen_eq_next, advance_eq_next, Prod.exists]
    constructor
    · rintro ⟨v, u, hu, w, hw, hp, rfl⟩
      exact ⟨hc, v, u, w, hu, hw, hp, rfl⟩
    · rintro ⟨_, v, u, w, hu, hw, hp, rfl⟩
      exact ⟨v, u, hu, w, hw, hp, rfl⟩

theorem resultToR_eq_next {r : Designator} {f : Byte → Alu} {s t : State} :
    resultToR r f s = .next t ↔ ∃ c, cellOf (effective r s) s = some c ∧ resultToCell c f s = .next t := by
  simp only [resultToR, andThen_eq_next, resolve_eq_next]

theorem modifyR_eq_next {r : Designator} {care : Cell → Byte} {f : Byte → Byte} {s t : State} :
    modifyR r care f s = .next t ↔ ∃ c v u w, cellOf (effective r s) s = some c ∧
      readCell (care c) c s = .next (v, u) ∧ writeCell c (f v) u = .next w ∧ w.pc ≠ 0x7FFF#15 ∧
      t = w.setPc w.nextPc := by
  simp only [modifyR, andThen_eq_next, resolve_eq_next, advance_eq_next, Prod.exists]
  constructor
  · rintro ⟨c, hc, v, u, hu, w, hw, hp, rfl⟩
    exact ⟨c, v, u, w, hc, hu, hw, hp, rfl⟩
  · rintro ⟨c, v, u, w, hc, hu, hw, hp, rfl⟩
    exact ⟨c, hc, v, u, hu, w, hw, hp, rfl⟩

theorem countToA_eq_next {r : Designator} {f : Byte → Byte} {s t : State} :
    countToA r f s = .next t ↔ ∃ c v u, cellOf (effective r s) s = some c ∧ readCell allBits c s = .next (v, u) ∧
      skipIf (isZero (f v)) (u.setA (f v)) = .next t := by
  simp only [countToA, andThen_eq_next, resolve_eq_next, Prod.exists]
  constructor
  · rintro ⟨c, hc, v, u, hu, ht⟩
    exact ⟨c, v, u, hc, hu, ht⟩
  · rintro ⟨c, v, u, hc, hu, ht⟩
    exact ⟨c, hc, v, u, hu, ht⟩

theorem countToR_eq_next {r : Designator} {f : Byte → Byte} {s t : State} :
    countToR r f s = .next t ↔ ∃ c v u w, cellOf (effective r s) s = some c ∧ readCell allBits c s = .next (v, u) ∧
      writeCell c (f v) u = .next w ∧ skipIf (isZero (f v)) w = .next t := by
  simp only [countToR, andThen_eq_next, resolve_eq_next, Prod.exists]
  constructor
  · rintro ⟨c, hc, v, u, hu, w, hw, ht⟩
    exact ⟨c, v, u, w, hc, hu, hw, ht⟩
  · rintro ⟨c, v, u, w, hc, hu, hw, ht⟩
    exact ⟨c, hc, v, u, hu, w, hw, ht⟩

theorem skipOnBit_eq_next {r : Designator} {b : BitNumber} {wanted : Bool} {s t : State} :
    skipOnBit r b wanted s = .next t ↔ ∃ c v u, cellOf (effective r s) s = some c ∧
      readCell (1#8 <<< b.toNat) c s = .next (v, u) ∧ skipIf (v.getLsbD b.toNat == wanted) u = .next t := by
  simp only [skipOnBit, andThen_eq_next, resolve_eq_next, Prod.exists]
  constructor
  · rintro ⟨c, hc, v, u, hu, ht⟩
    exact ⟨c, v, u, hc, hu, ht⟩
  · rintro ⟨c, v, u, hc, hu, ht⟩
    exact ⟨c, hc, v, u, hu, ht⟩

theorem literalToA_eq_next {x : Alu} {s t : State} :
    literalToA x s = .next t ↔ s.pc ≠ 0x7FFF#15 ∧
      t = ((s.setStatus (x.status s.r3)).setA x.val).setPc s.nextPc := by
  simp only [literalToA, advance_eq_next]
  rfl

end Sys2Proof.Machine
end

