-- ==== Sys2Proof/Laws/Turn.lean ====
section
/-! SUPPORT. What the control registers, the events and a turn can do, each once. -/

namespace Sys2Proof.Machine

/-! ### Control registers -/

/-- A write of a control register changes control registers only, and the count of draws (R107, R183). -/
theorem iocWrite_keeps {r : IocNumber} {v : Byte} {s t : State} (h : iocWrite r v s = .next t) :
    t = { s with
      p6 := { s.p6 with dir := t.p6.dir }, p7 := { s.p7 with dir := t.p7.dir }
      p8 := { s.p8 with dir := t.p8.dir }, p9 := { s.p9 with dir := t.p9.dir }
      ioca := t.ioca, iocb := t.iocb, cnt1 := t.cnt1, cpre1 := t.cpre1, iocc := t.iocc, cnt2 := t.cnt2
      iocd := t.iocd, ioce := t.ioce, iocf := t.iocf, draws := t.draws } := by
  unfold iocWrite at h
  split at h <;> try split at h
  all_goals first
    | (cases h; rfl)
    | cases h

/-- A read of a control register answers its value, or is refused under one of two names (R107). -/
theorem iocRead_cases (r : IocNumber) (s : State) :
    (∃ v, iocRead r s = .next v) ∨
    (iocRead r s = .refused .controlPageAbsent ∧ s.iocPage = true ∧ (r = 0xD#4 ∨ r = 0xE#4)) ∨
    (iocRead r s = .refused .controlRegisterAbsent ∧ r.toNat < 6) := by
  have : ∀ r : IocNumber, r.toNat < 6 ∨ r = 6#4 ∨ r = 7#4 ∨ r = 8#4 ∨ r = 9#4 ∨ r = 0xA#4 ∨ r = 0xB#4 ∨ r = 0xC#4 ∨
      r = 0xD#4 ∨ r = 0xE#4 ∨ r = 0xF#4 := by decide
  rcases this r with h | rfl | rfl | rfl | rfl | rfl | rfl | rfl | rfl | rfl | rfl
  · refine .inr (.inr ⟨?_, h⟩)
    unfold iocRead
    split <;> simp_all
  all_goals first
    | exact .inl ⟨_, rfl⟩
    | (cases hp : s.iocPage
       · exact .inl ⟨_, by simp [iocRead, hp]; rfl⟩
       · exact .inr (.inl ⟨by simp [iocRead, hp], rfl, by decide⟩))

/-! ### Edges and wake-ups -/

/-- Recording edges changes RF only, and only adds flags under their mask (R52). -/
theorem recordEdges_eq (s t : State) :
    recordEdges s t = { t with rf := t.rf ||| (edgeFlags (fallenPins s t .port6) &&& t.iocf) } := rfl

/-- A wake-up changes the run state, the interrupt hold and the count of draws only (R353). -/
theorem State.wake_eq (s : State) :
    s.wake = { s with run := .running, irqHold := (s.freeByte 0).getLsbD 0, draws := s.draws + 1 } := rfl

/-- A pin change touches that port, RF, and what a wake-up changes (R390). -/
theorem State.pinChange_keeps (s : State) (p : PortId) (i : Fin 8) (d : PinDrive) :
    s.pinChange p i d = { s.setPort p ((s.port p).drive i d) with
      rf := (s.pinChange p i d).rf, run := (s.pinChange p i d).run
      irqHold := (s.pinChange p i d).irqHold, draws := (s.pinChange p i d).draws } := by
  unfold State.pinChange wakeOnPort9
  split <;> rfl

/-! ### Turns -/

/-- A turn is the CPU's or an event's (R11). -/
theorem takeTurn_cases (s : State) :
    (s.agenda = [] ∧ takeTurn s = cpuTurn s) ∨
    (∃ rest, s.agenda = .cpu :: rest ∧ takeTurn s = cpuTurn (s.setAgenda rest)) ∨
    (∃ e rest, s.agenda = .event e :: rest ∧ takeTurn s = .next (occur e (s.setAgenda rest))) := by
  match h : s.agenda with
  | [] => exact .inl ⟨rfl, by simp [takeTurn, h]⟩
  | .cpu :: rest => exact .inr (.inl ⟨rest, rfl, by simp [takeTurn, h]⟩)
  | .event e :: rest => exact .inr (.inr ⟨e, rest, rfl, by simp [takeTurn, h]⟩)

/-- The CPU's turn: nothing, an idle turn, an interrupt entry, or one instruction (R12). -/
theorem cpuTurn_cases (s : State) :
    (s.resetLow = true ∧ cpuTurn s = .next s) ∨
    (s.resetLow = false ∧ s.run = .idle ∧ cpuTurn s = .next (idleTurn s)) ∨
    (s.resetLow = false ∧ s.run = .running ∧ s.takesInterrupt = true ∧ cpuTurn s = interruptEntry s.beginStep) ∨
    (s.resetLow = false ∧ s.run = .running ∧ s.takesInterrupt = false ∧ cpuTurn s = runNext s) := by
  unfold cpuTurn
  cases s.resetLow <;> cases s.run <;> cases s.takesInterrupt <;> simp

/-- One instruction: the word at `pc` is known and has a meaning, `exec` answers, and the edges are recorded. -/
theorem runNext_eq_next {s t : State} :
    runNext s = .next t ↔ ∃ w i u, s.mem.romRead s.pc.toNat = some w ∧ decode w = .instr i ∧
      exec i s.beginStep = .next u ∧ t = recordEdges s u := by
  simp only [runNext, andThen_eq_next, fetch_eq_next]
  constructor
  · rintro ⟨w, hw, h⟩
    split at h
    · next i hd =>
      obtain ⟨u, hu, ht⟩ := andThen_eq_next.1 h
      exact ⟨w, i, u, hw, hd, hu, by simpa using ht.symm⟩
    · cases h
  · rintro ⟨w, i, u, hw, hd, hu, rfl⟩
    exact ⟨w, hw, by simp [hd, runInstr, hu]⟩

end Sys2Proof.Machine
end

