-- ==== Sys2Proof/Laws/Fairness.lean ====
section
/-! SUPPORT. A run under a course, and what one turn of an idle machine can do. -/

namespace Sys2Proof.Machine

@[simp] theorem courseRun_zero (c : Course) (s : State) : courseRun c s 0 = .next s := rfl

theorem courseRun_succ_eq_next {c : Course} {s t : State} {n : Nat} :
    courseRun c s (n + 1) = .next t ↔ ∃ u, courseRun c s n = .next u ∧ step (u.setAgenda [c n]) = .next t := by
  simp only [courseRun, andThen_eq_next]

/-- A run that clears the watchdog again and again is fair to it, whether or not it ever times out (R390). -/
theorem eventually_watchdog_of_cleared {c : Course} {s : State}
    (h : ∀ n, ∃ m, n ≤ m ∧ ∀ t, courseRun c s m = .next t → t.wdt = 0) :
    eventually State.wdtRunning .watchdog c s := by
  intro n
  obtain ⟨m, hm, hc⟩ := h n
  exact ⟨m, hm, .inr fun t ht => by simp [State.wdtRunning, hc t ht]⟩

/-- A turn laid down alone is taken: the CPU's, or an event (R11). -/
theorem step_setAgenda_cpu (s : State) : step (s.setAgenda [.cpu]) = cpuTurn (s.setAgenda []) := rfl

theorem step_setAgenda_event (e : Event) (s : State) :
    step (s.setAgenda [.event e]) = .next (occur e (s.setAgenda [])) := rfl

/-- The machine is idle, not held in reset, and from `s` on neither `pc` nor a register that a wake-up depends on has
changed (R352, R353). -/
structure StillIdle (s t : State) : Prop where
  run : t.run = .idle
  resetLow : t.resetLow = false
  pc : t.pc = s.pc
  cont : t.cont = s.cont
  iocf : t.iocf = s.iocf
  ra : t.ra = s.ra
  cfg : t.cfg = s.cfg

/-- The machine runs on after `s`, at the same `pc` or from 0 after a reset (R353, R357). -/
def RunsOn (s t : State) : Prop := t.run = .running ∧ (t.pc = s.pc ∨ t.pc = 0#15)

theorem StillIdle.refl {s : State} (h : s.run = .idle) (hr : s.resetLow = false) : StillIdle s s :=
  ⟨h, hr, rfl, rfl, rfl, rfl, rfl⟩

theorem StillIdle.trans {s t u : State} (h : StillIdle s t) (k : StillIdle t u) : StillIdle s u :=
  ⟨k.run, k.resetLow, k.pc.trans h.pc, k.cont.trans h.cont, k.iocf.trans h.iocf, k.ra.trans h.ra, k.cfg.trans h.cfg⟩

/-- The CPU's turn of an idle machine. -/
theorem cpuTurn_idle {s : State} (h : s.run = .idle) (hr : s.resetLow = false) :
    cpuTurn s = .next (s.setWdt (s.wdt + 1)) := by
  simp [cpuTurn, idleTurn, h, hr]

/-- An event in an idle machine ends the idle state, or leaves all that a wake-up depends on. -/
theorem occur_idle (e : Event) {s : State} (h : s.run = .idle) (hr : s.resetLow = false) :
    RunsOn s (occur e s) ∨ StillIdle s (occur e s) := by
  have idle := StillIdle.refl h hr
  cases e with
  | tccTick =>
    simp only [occur, State.tccTick, State.tccCount, State.tccOverflow]
    split
    · have key : ∀ b q : Byte, RunsOn s
          (let t := State.raise { s with pre := q, tcc := b } 0x01#7
           if t.run = .idle ∧ t.tccOnSubClock ∧ t.iocf.getLsbD 0 then t.wake else t) ∨ StillIdle s
          (let t := State.raise { s with pre := q, tcc := b } 0x01#7
           if t.run = .idle ∧ t.tccOnSubClock ∧ t.iocf.getLsbD 0 then t.wake else t) := by
        intro b q
        dsimp only
        split
        · exact .inl ⟨rfl, .inl rfl⟩
        · exact .inr ⟨h, hr, rfl, rfl, rfl, rfl, rfl⟩
      split
      · split
        · exact key 0#8 s.pre
        · exact .inr ⟨h, hr, rfl, rfl, rfl, rfl, rfl⟩
      · split
        · split
          · exact key 0#8 (s.pre + 1#8)
          · exact .inr ⟨h, hr, rfl, rfl, rfl, rfl, rfl⟩
        · exact .inr ⟨h, hr, rfl, rfl, rfl, rfl, rfl⟩
    · exact .inr idle
  | watchdog =>
    simp only [occur]
    split
    · simp only [State.watchdogTimeout, h]
      exact .inl ⟨rfl, .inl rfl⟩
    · exact .inr idle
  | counter1Tick =>
    simp only [occur, State.counter1Tick]
    repeat' split
    all_goals exact .inr ⟨h, hr, rfl, rfl, rfl, rfl, rfl⟩
  | counter2Tick =>
    simp only [occur, State.counter2Tick]
    repeat' split
    all_goals exact .inr ⟨h, hr, rfl, rfl, rfl, rfl, rfl⟩
  | pin p i d =>
    simp only [occur, State.pinChange, wakeOnPort9]
    split
    · exact .inl ⟨rfl, .inl (by cases p <;> rfl)⟩
    · cases p <;> exact .inr ⟨h, hr, rfl, rfl, rfl, rfl, rfl⟩
  | supply v => cases v <;> exact .inr ⟨h, hr, rfl, rfl, rfl, rfl, rfl⟩
  | supplyReset v =>
    simp only [occur]
    split
    · exact .inl ⟨rfl, .inr rfl⟩
    · exact .inr idle
  | resetPin low =>
    cases low with
    | false => exact .inr ⟨h, rfl, rfl, rfl, rfl, rfl, rfl⟩
    | true =>
      simp only [occur, State.resetPinChange, hr]
      exact .inl ⟨rfl, .inr rfl⟩

/-- One turn of an idle machine is never a stop: it runs on, or is still idle. -/
theorem step_idle (x : Turn) {s : State} (h : s.run = .idle) (hr : s.resetLow = false) :
    ∃ t, step (s.setAgenda [x]) = .next t ∧ (RunsOn s t ∨ StillIdle s t) := by
  cases x with
  | cpu => exact ⟨_, cpuTurn_idle h hr, .inr ⟨h, hr, rfl, rfl, rfl, rfl, rfl⟩⟩
  | event e =>
    exact ⟨_, step_setAgenda_event e s, (occur_idle e (s := s.setAgenda []) h hr).imp id fun k =>
      ⟨k.run, k.resetLow, k.pc, k.cont, k.iocf, k.ra, k.cfg⟩⟩

/-- Under any course an idle machine runs on at some turn, idle until then, or is idle for ever. -/
theorem courseRun_idle (c : Course) {s : State} (h : s.run = .idle) (hr : s.resetLow = false) (n : Nat) :
    (∃ m t, m ≤ n ∧ courseRun c s m = .next t ∧ RunsOn s t ∧
      ∀ k, k < m → ∃ u, courseRun c s k = .next u ∧ StillIdle s u) ∨
    (∀ k, k ≤ n → ∃ u, courseRun c s k = .next u ∧ StillIdle s u) := by
  induction n with
  | zero =>
    refine .inr fun k hk => ⟨s, ?_, .refl h hr⟩
    obtain rfl : k = 0 := by omega
    rfl
  | succ n ih =>
    obtain ⟨m, t, hm, ht⟩ | ih := ih
    · exact .inl ⟨m, t, by omega, ht⟩
    · obtain ⟨u, hu, hi⟩ := ih n (Nat.le_refl n)
      obtain ⟨t, ht, hs | hs⟩ := step_idle (c n) hi.run hi.resetLow
      · exact .inl ⟨n + 1, t, Nat.le_refl _, courseRun_succ_eq_next.2 ⟨u, hu, ht⟩,
          ⟨hs.1, hs.2.imp (·.trans hi.pc) id⟩, fun k hk => ih k (by omega)⟩
      · refine .inr fun k hk => ?_
        rcases Nat.lt_or_ge n k with hk' | hk'
        · obtain rfl : k = n + 1 := by omega
          exact ⟨t, courseRun_succ_eq_next.2 ⟨u, hu, ht⟩, hi.trans hs⟩
        · exact ih k hk'

end Sys2Proof.Machine
end

