-- ==== Sys2Proof/Laws/PerInstr.lean ====
section
/-! SUPPORT. Per instruction: its encoding agrees with the match and the mask of its row of
spec/opcode_table.json. -/

namespace Sys2Proof.Laws

/-- The row's mask: the bits of the word that the row fixes. -/
def tableMask : Instr → Word
  | .nop => 0x1fff#13
  | .daa => 0x1fff#13
  | .contw => 0x1fff#13
  | .slep => 0x1fff#13
  | .wdtc => 0x1fff#13
  | .iow _ => 0x1ff0#13
  | .eni => 0x1fff#13
  | .disi => 0x1fff#13
  | .ret => 0x1fff#13
  | .reti => 0x1fff#13
  | .contr => 0x1fff#13
  | .ior _ => 0x1ff0#13
  | .tbl => 0x1fff#13
  | .movRA _ => 0x1fc0#13
  | .clra => 0x1fff#13
  | .clrR _ => 0x1fc0#13
  | .subAR _ => 0x1fc0#13
  | .subRA _ => 0x1fc0#13
  | .decaR _ => 0x1fc0#13
  | .decR _ => 0x1fc0#13
  | .orAR _ => 0x1fc0#13
  | .orRA _ => 0x1fc0#13
  | .andAR _ => 0x1fc0#13
  | .andRA _ => 0x1fc0#13
  | .xorAR _ => 0x1fc0#13
  | .xorRA _ => 0x1fc0#13
  | .addAR _ => 0x1fc0#13
  | .addRA _ => 0x1fc0#13
  | .movAR _ => 0x1fc0#13
  | .movRR _ => 0x1fc0#13
  | .comaR _ => 0x1fc0#13
  | .comR _ => 0x1fc0#13
  | .incaR _ => 0x1fc0#13
  | .incR _ => 0x1fc0#13
  | .djzaR _ => 0x1fc0#13
  | .djzR _ => 0x1fc0#13
  | .rrcaR _ => 0x1fc0#13
  | .rrcR _ => 0x1fc0#13
  | .rlcaR _ => 0x1fc0#13
  | .rlcR _ => 0x1fc0#13
  | .swapaR _ => 0x1fc0#13
  | .swapR _ => 0x1fc0#13
  | .jzaR _ => 0x1fc0#13
  | .jzR _ => 0x1fc0#13
  | .bc _ _ => 0x1e00#13
  | .bs _ _ => 0x1e00#13
  | .jbc _ _ => 0x1e00#13
  | .jbs _ _ => 0x1e00#13
  | .call _ => 0x1c00#13
  | .jmp _ => 0x1c00#13
  | .movAK _ => 0x1f00#13
  | .orAK _ => 0x1f00#13
  | .andAK _ => 0x1f00#13
  | .xorAK _ => 0x1f00#13
  | .retl _ => 0x1f00#13
  | .subAK _ => 0x1f00#13
  | .int => 0x1fff#13
  | .page _ => 0x1ff0#13
  | .addAK _ => 0x1f00#13

/-- The row's match: the values of those bits. -/
def tableMatch : Instr → Word
  | .nop => 0x0000#13
  | .daa => 0x0001#13
  | .contw => 0x0002#13
  | .slep => 0x0003#13
  | .wdtc => 0x0004#13
  | .iow _ => 0x0000#13
  | .eni => 0x0010#13
  | .disi => 0x0011#13
  | .ret => 0x0012#13
  | .reti => 0x0013#13
  | .contr => 0x0014#13
  | .ior _ => 0x0010#13
  | .tbl => 0x0020#13
  | .movRA _ => 0x0040#13
  | .clra => 0x0080#13
  | .clrR _ => 0x00c0#13
  | .subAR _ => 0x0100#13
  | .subRA _ => 0x0140#13
  | .decaR _ => 0x0180#13
  | .decR _ => 0x01c0#13
  | .orAR _ => 0x0200#13
  | .orRA _ => 0x0240#13
  | .andAR _ => 0x0280#13
  | .andRA _ => 0x02c0#13
  | .xorAR _ => 0x0300#13
  | .xorRA _ => 0x0340#13
  | .addAR _ => 0x0380#13
  | .addRA _ => 0x03c0#13
  | .movAR _ => 0x0400#13
  | .movRR _ => 0x0440#13
  | .comaR _ => 0x0480#13
  | .comR _ => 0x04c0#13
  | .incaR _ => 0x0500#13
  | .incR _ => 0x0540#13
  | .djzaR _ => 0x0580#13
  | .djzR _ => 0x05c0#13
  | .rrcaR _ => 0x0600#13
  | .rrcR _ => 0x0640#13
  | .rlcaR _ => 0x0680#13
  | .rlcR _ => 0x06c0#13
  | .swapaR _ => 0x0700#13
  | .swapR _ => 0x0740#13
  | .jzaR _ => 0x0780#13
  | .jzR _ => 0x07c0#13
  | .bc _ _ => 0x0800#13
  | .bs _ _ => 0x0a00#13
  | .jbc _ _ => 0x0c00#13
  | .jbs _ _ => 0x0e00#13
  | .call _ => 0x1000#13
  | .jmp _ => 0x1400#13
  | .movAK _ => 0x1800#13
  | .orAK _ => 0x1900#13
  | .andAK _ => 0x1a00#13
  | .xorAK _ => 0x1b00#13
  | .retl _ => 0x1c00#13
  | .subAK _ => 0x1d00#13
  | .int => 0x1e01#13
  | .page _ => 0x1e80#13
  | .addAK _ => 0x1f00#13

/-- The word of the instruction carries its row's fixed bits. -/
def EncodeMatchesTable.Statement (i : Instr) : Prop := encode i &&& tableMask i = tableMatch i

/-- A field below the row's fixed bits does not touch them. -/
theorem or_field_and_mask (base field mask : Word) (hb : base &&& mask = base) (hf : field &&& mask = 0#13) :
    (base ||| field) &&& mask = base := by
  rw [BitVec.and_comm, BitVec.and_or_distrib_left, BitVec.and_comm mask, BitVec.and_comm mask, hb, hf, BitVec.or_zero]

theorem designator_below : ∀ r : Designator, r.setWidth 13 &&& 0x1fc0#13 = 0#13 := by decide
theorem low4_below : ∀ r : BitVec 4, r.setWidth 13 &&& 0x1ff0#13 = 0#13 := by decide
theorem byte_below : ∀ k : Byte, k.setWidth 13 &&& 0x1f00#13 = 0#13 := by decide
theorem target_below (k : BitVec 10) : k.setWidth 13 &&& 0x1c00#13 = 0#13 := by
  apply BitVec.eq_of_getLsbD_eq
  intro i hi
  rw [BitVec.getLsbD_and]
  interval_cases i <;> simp
theorem bit_below : ∀ b : BitNumber, ∀ r : Designator, (b.setWidth 13 <<< 6 ||| r.setWidth 13) &&& 0x1e00#13 = 0#13 := by decide

/-- The same with the two fields of format B. -/
theorem or_fields_and_mask (base : Word) (b : BitNumber) (r : Designator) (hb : base &&& 0x1e00#13 = base)
    (h : (b.setWidth 13 <<< 6 ||| r.setWidth 13) &&& 0x1e00#13 = 0#13) :
    (base ||| b.setWidth 13 <<< 6 ||| r.setWidth 13) &&& 0x1e00#13 = base := by
  rw [BitVec.or_assoc]
  exact or_field_and_mask _ _ _ hb h

theorem EncodeMatchesTable.nop : EncodeMatchesTable.Statement (.nop) := rfl
theorem EncodeMatchesTable.daa : EncodeMatchesTable.Statement (.daa) := rfl
theorem EncodeMatchesTable.contw : EncodeMatchesTable.Statement (.contw) := rfl
theorem EncodeMatchesTable.slep : EncodeMatchesTable.Statement (.slep) := rfl
theorem EncodeMatchesTable.wdtc : EncodeMatchesTable.Statement (.wdtc) := rfl
theorem EncodeMatchesTable.iow (r : IocNumber) : EncodeMatchesTable.Statement (.iow r) := or_field_and_mask 0x0000#13 _ 0x1ff0#13 (by decide) (low4_below r)
theorem EncodeMatchesTable.eni : EncodeMatchesTable.Statement (.eni) := rfl
theorem EncodeMatchesTable.disi : EncodeMatchesTable.Statement (.disi) := rfl
theorem EncodeMatchesTable.ret : EncodeMatchesTable.Statement (.ret) := rfl
theorem EncodeMatchesTable.reti : EncodeMatchesTable.Statement (.reti) := rfl
theorem EncodeMatchesTable.contr : EncodeMatchesTable.Statement (.contr) := rfl
theorem EncodeMatchesTable.ior (r : IocNumber) : EncodeMatchesTable.Statement (.ior r) := or_field_and_mask 0x0010#13 _ 0x1ff0#13 (by decide) (low4_below r)
theorem EncodeMatchesTable.tbl : EncodeMatchesTable.Statement (.tbl) := rfl
theorem EncodeMatchesTable.movRA (r : Designator) : EncodeMatchesTable.Statement (.movRA r) := or_field_and_mask 0x0040#13 _ 0x1fc0#13 (by decide) (designator_below r)
theorem EncodeMatchesTable.clra : EncodeMatchesTable.Statement (.clra) := rfl
theorem EncodeMatchesTable.clrR (r : Designator) : EncodeMatchesTable.Statement (.clrR r) := or_field_and_mask 0x00c0#13 _ 0x1fc0#13 (by decide) (designator_below r)
theorem EncodeMatchesTable.subAR (r : Designator) : EncodeMatchesTable.Statement (.subAR r) := or_field_and_mask 0x0100#13 _ 0x1fc0#13 (by decide) (designator_below r)
theorem EncodeMatchesTable.subRA (r : Designator) : EncodeMatchesTable.Statement (.subRA r) := or_field_and_mask 0x0140#13 _ 0x1fc0#13 (by decide) (designator_below r)
theorem EncodeMatchesTable.decaR (r : Designator) : EncodeMatchesTable.Statement (.decaR r) := or_field_and_mask 0x0180#13 _ 0x1fc0#13 (by decide) (designator_below r)
theorem EncodeMatchesTable.decR (r : Designator) : EncodeMatchesTable.Statement (.decR r) := or_field_and_mask 0x01c0#13 _ 0x1fc0#13 (by decide) (designator_below r)
theorem EncodeMatchesTable.orAR (r : Designator) : EncodeMatchesTable.Statement (.orAR r) := or_field_and_mask 0x0200#13 _ 0x1fc0#13 (by decide) (designator_below r)
theorem EncodeMatchesTable.orRA (r : Designator) : EncodeMatchesTable.Statement (.orRA r) := or_field_and_mask 0x0240#13 _ 0x1fc0#13 (by decide) (designator_below r)
theorem EncodeMatchesTable.andAR (r : Designator) : EncodeMatchesTable.Statement (.andAR r) := or_field_and_mask 0x0280#13 _ 0x1fc0#13 (by decide) (designator_below r)
theorem EncodeMatchesTable.andRA (r : Designator) : EncodeMatchesTable.Statement (.andRA r) := or_field_and_mask 0x02c0#13 _ 0x1fc0#13 (by decide) (designator_below r)
theorem EncodeMatchesTable.xorAR (r : Designator) : EncodeMatchesTable.Statement (.xorAR r) := or_field_and_mask 0x0300#13 _ 0x1fc0#13 (by decide) (designator_below r)
theorem EncodeMatchesTable.xorRA (r : Designator) : EncodeMatchesTable.Statement (.xorRA r) := or_field_and_mask 0x0340#13 _ 0x1fc0#13 (by decide) (designator_below r)
theorem EncodeMatchesTable.addAR (r : Designator) : EncodeMatchesTable.Statement (.addAR r) := or_field_and_mask 0x0380#13 _ 0x1fc0#13 (by decide) (designator_below r)
theorem EncodeMatchesTable.addRA (r : Designator) : EncodeMatchesTable.Statement (.addRA r) := or_field_and_mask 0x03c0#13 _ 0x1fc0#13 (by decide) (designator_below r)
theorem EncodeMatchesTable.movAR (r : Designator) : EncodeMatchesTable.Statement (.movAR r) := or_field_and_mask 0x0400#13 _ 0x1fc0#13 (by decide) (designator_below r)
theorem EncodeMatchesTable.movRR (r : Designator) : EncodeMatchesTable.Statement (.movRR r) := or_field_and_mask 0x0440#13 _ 0x1fc0#13 (by decide) (designator_below r)
theorem EncodeMatchesTable.comaR (r : Designator) : EncodeMatchesTable.Statement (.comaR r) := or_field_and_mask 0x0480#13 _ 0x1fc0#13 (by decide) (designator_below r)
theorem EncodeMatchesTable.comR (r : Designator) : EncodeMatchesTable.Statement (.comR r) := or_field_and_mask 0x04c0#13 _ 0x1fc0#13 (by decide) (designator_below r)
theorem EncodeMatchesTable.incaR (r : Designator) : EncodeMatchesTable.Statement (.incaR r) := or_field_and_mask 0x0500#13 _ 0x1fc0#13 (by decide) (designator_below r)
theorem EncodeMatchesTable.incR (r : Designator) : EncodeMatchesTable.Statement (.incR r) := or_field_and_mask 0x0540#13 _ 0x1fc0#13 (by decide) (designator_below r)
theorem EncodeMatchesTable.djzaR (r : Designator) : EncodeMatchesTable.Statement (.djzaR r) := or_field_and_mask 0x0580#13 _ 0x1fc0#13 (by decide) (designator_below r)
theorem EncodeMatchesTable.djzR (r : Designator) : EncodeMatchesTable.Statement (.djzR r) := or_field_and_mask 0x05c0#13 _ 0x1fc0#13 (by decide) (designator_below r)
theorem EncodeMatchesTable.rrcaR (r : Designator) : EncodeMatchesTable.Statement (.rrcaR r) := or_field_and_mask 0x0600#13 _ 0x1fc0#13 (by decide) (designator_below r)
theorem EncodeMatchesTable.rrcR (r : Designator) : EncodeMatchesTable.Statement (.rrcR r) := or_field_and_mask 0x0640#13 _ 0x1fc0#13 (by decide) (designator_below r)
theorem EncodeMatchesTable.rlcaR (r : Designator) : EncodeMatchesTable.Statement (.rlcaR r) := or_field_and_mask 0x0680#13 _ 0x1fc0#13 (by decide) (designator_below r)
theorem EncodeMatchesTable.rlcR (r : Designator) : EncodeMatchesTable.Statement (.rlcR r) := or_field_and_mask 0x06c0#13 _ 0x1fc0#13 (by decide) (designator_below r)
theorem EncodeMatchesTable.swapaR (r : Designator) : EncodeMatchesTable.Statement (.swapaR r) := or_field_and_mask 0x0700#13 _ 0x1fc0#13 (by decide) (designator_below r)
theorem EncodeMatchesTable.swapR (r : Designator) : EncodeMatchesTable.Statement (.swapR r) := or_field_and_mask 0x0740#13 _ 0x1fc0#13 (by decide) (designator_below r)
theorem EncodeMatchesTable.jzaR (r : Designator) : EncodeMatchesTable.Statement (.jzaR r) := or_field_and_mask 0x0780#13 _ 0x1fc0#13 (by decide) (designator_below r)
theorem EncodeMatchesTable.jzR (r : Designator) : EncodeMatchesTable.Statement (.jzR r) := or_field_and_mask 0x07c0#13 _ 0x1fc0#13 (by decide) (designator_below r)
theorem EncodeMatchesTable.bc (r : Designator) (b : BitNumber) : EncodeMatchesTable.Statement (.bc r b) := or_fields_and_mask 0x0800#13 b r (by decide) (bit_below b r)
theorem EncodeMatchesTable.bs (r : Designator) (b : BitNumber) : EncodeMatchesTable.Statement (.bs r b) := or_fields_and_mask 0x0a00#13 b r (by decide) (bit_below b r)
theorem EncodeMatchesTable.jbc (r : Designator) (b : BitNumber) : EncodeMatchesTable.Statement (.jbc r b) := or_fields_and_mask 0x0c00#13 b r (by decide) (bit_below b r)
theorem EncodeMatchesTable.jbs (r : Designator) (b : BitNumber) : EncodeMatchesTable.Statement (.jbs r b) := or_fields_and_mask 0x0e00#13 b r (by decide) (bit_below b r)
theorem EncodeMatchesTable.call (k : BitVec 10) : EncodeMatchesTable.Statement (.call k) := or_field_and_mask 0x1000#13 _ 0x1c00#13 (by decide) (target_below k)
theorem EncodeMatchesTable.jmp (k : BitVec 10) : EncodeMatchesTable.Statement (.jmp k) := or_field_and_mask 0x1400#13 _ 0x1c00#13 (by decide) (target_below k)
theorem EncodeMatchesTable.movAK (k : Byte) : EncodeMatchesTable.Statement (.movAK k) := or_field_and_mask 0x1800#13 _ 0x1f00#13 (by decide) (byte_below k)
theorem EncodeMatchesTable.orAK (k : Byte) : EncodeMatchesTable.Statement (.orAK k) := or_field_and_mask 0x1900#13 _ 0x1f00#13 (by decide) (byte_below k)
theorem EncodeMatchesTable.andAK (k : Byte) : EncodeMatchesTable.Statement (.andAK k) := or_field_and_mask 0x1a00#13 _ 0x1f00#13 (by decide) (byte_below k)
theorem EncodeMatchesTable.xorAK (k : Byte) : EncodeMatchesTable.Statement (.xorAK k) := or_field_and_mask 0x1b00#13 _ 0x1f00#13 (by decide) (byte_below k)
theorem EncodeMatchesTable.retl (k : Byte) : EncodeMatchesTable.Statement (.retl k) := or_field_and_mask 0x1c00#13 _ 0x1f00#13 (by decide) (byte_below k)
theorem EncodeMatchesTable.subAK (k : Byte) : EncodeMatchesTable.Statement (.subAK k) := or_field_and_mask 0x1d00#13 _ 0x1f00#13 (by decide) (byte_below k)
theorem EncodeMatchesTable.int : EncodeMatchesTable.Statement (.int) := rfl
theorem EncodeMatchesTable.page (k : BitVec 4) : EncodeMatchesTable.Statement (.page k) := or_field_and_mask 0x1e80#13 _ 0x1ff0#13 (by decide) (low4_below k)
theorem EncodeMatchesTable.addAK (k : Byte) : EncodeMatchesTable.Statement (.addAK k) := or_field_and_mask 0x1f00#13 _ 0x1f00#13 (by decide) (byte_below k)

end Sys2Proof.Laws
end

