-- ==== Sys2Proof/Machine/Devices.lean ====
section
/-! DEFINITION. Views of the devices that follow from the state but that no rule of the machine reads: the power
mode, the clock and prescaler rates, the buzzer's rate, the cycle count (spec/00_scope.md R3, spec/10_state.md R44,
R62, R72, spec/60_exceptions.md R350, R375, spec/70_reset_and_hazards.md R421; notes/assumptions/35.md). -/

namespace Sys2Proof.Machine

/-- The three modes (R3). -/
inductive Mode where
  | idle
  | green
  | normal
deriving DecidableEq, Repr

/-- Idle while the CPU is off, else green or normal by RA bit 6 (R350). -/
def State.mode (s : State) : Mode :=
  match s.run with
  | .idle => .idle
  | .running => if s.ra.getLsbD 6 then .normal else .green

/-- The main clock in Hz by MS1, MS0 (R44); the row 1, 1 is not listed (U9). -/
def State.mainClockHz (s : State) : Nat :=
  match s.ra.getLsbD 5, s.ra.getLsbD 4 with
  | false, false => 750000
  | false, true => 1500000
  | true, false => 3000000
  | true, true => Config.mainClock11

/-- How many ticks of its source make one TCC count (R62, R361). -/
def State.tccRate (s : State) : Nat := if s.prescalerOnWdt then 1 else 2 ^ (s.prescalerSelect + 1)

/-- How many base periods make one watchdog period (R62, R368). -/
def State.wdtRate (s : State) : Nat := if s.prescalerOnWdt then 2 ^ s.prescalerSelect else 1

/-- The buzzer's clock source in Hz: the sub clock, on in every mode (R3), or the main clock's 1 MHz, which the
buzzer has in normal mode only (R73, R351, C9). -/
def State.buzzerClockHz (s : State) : Option Nat :=
  if s.ioce.getLsbD 1 then (if s.mainClockOn then some 1000000 else none) else some 32768

/-- The buzzer's frequency in Hz, truncated: none while it is disabled or has no clock (R72, R73, R351, R375). -/
def State.buzzerHz (s : State) : Option Nat :=
  if s.ioce.getLsbD 0 then
    s.buzzerClockHz.map fun hz => if s.iocd = 0#8 then Config.buzzerZero else hz / s.iocd.toNat
  else none

/-- The instruction cycles an instruction takes, one or two (R421, D41). -/
def cycles (i : Instr) : Nat := if Config.twoCycles (encode i) then 2 else 1

end Sys2Proof.Machine
end

