-- ==== Sys2Proof/Tests/Slice0.lean ====
section
/-! SUPPORT. The model's own tests: the well-formedness smoke, one word of every row of the opcode map, one-step
vectors of spec/95_test_vectors.md, and for every obligation with hypotheses a state and operands that meet them. -/

namespace Sys2Proof.Tests

open Sys2Proof.Machine
open Sys2Proof.Claims

/-! ### Helpers -/

/-- The start of the vectors of spec/95_test_vectors.md part 2: `pc` = 0x0100, R4 = 0. -/
def at100 : State := { State.reset with pc := 0x0100, r4 := 0 }

/-- `at100` with R20 and A given. -/
def with20 (v a : Byte) : State := { at100 with a := a, mem := at100.mem.ramWrite 0x20 v }

/-- The answer is a next state that `p` holds of. -/
def gives (o : Answer) (p : State → Bool) : Bool :=
  match o with
  | .next t => p t
  | .fault _ => false
  | .refused _ => false

/-- The answer is the given refusal. -/
def refuses (o : Answer) (r : Refusal) : Bool :=
  match o with
  | .next _ => false
  | .fault _ => false
  | .refused x => decide (x = r)

/-- The answer is the given fault. -/
def faults (o : Answer) (r : Fault) : Bool :=
  match o with
  | .next _ => false
  | .fault x => decide (x = r)
  | .refused _ => false

/-- Register 0x20 of bank 0. -/
def r20 (t : State) : Byte := t.mem.ramRead 0x20

/-- Z, C and DC. -/
def zcdc (t : State) : Bool × Bool × Bool := (t.flagZ, t.flagC, t.flagDC)

/-- The words of a few addresses, in rising order, as the program. -/
def running (l : List (Nat × Word)) (s : State) : State := { s with mem := { s.mem with rom := l } }

/-! ### Well-formedness: the one check, with ill-formed terms -/

theorem test_iow_5_ill_formed : (Instr.iow 5).wellFormed = false := by decide
theorem test_ior_5_ill_formed : (Instr.ior 5).wellFormed = false := by decide
theorem test_iow_0_ill_formed : (Instr.iow 0).wellFormed = false := by decide
theorem test_iow_6_well_formed : (Instr.iow 6).wellFormed = true := by decide

/-! ### Decode: one word of every row, its bits as rule R150 prints them -/

theorem test_decode_system :
    decode 0b0000000000000#13 = .instr (.nop) ∧
    decode 0b0000000000010#13 = .instr (.contw) ∧
    decode 0b0000000010100#13 = .instr (.contr) ∧
    decode 0b0000000001111#13 = .instr (.iow 0xF) ∧
    decode 0b0000000010110#13 = .instr (.ior 6) ∧
    decode 0b0000000000011#13 = .instr (.slep) ∧
    decode 0b0000000000100#13 = .instr (.wdtc) ∧
    decode 0b0000000010000#13 = .instr (.eni) ∧
    decode 0b0000000010001#13 = .instr (.disi) ∧
    decode 0b1111000000001#13 = .instr (.int) ∧
    decode 0b1111010001010#13 = .instr (.page 10) := by decide

theorem test_decode_move :
    decode 0b0000001100000#13 = .instr (.movRA 0x20) ∧
    decode 0b0010000100001#13 = .instr (.movAR 0x21) ∧
    decode 0b0010001110000#13 = .instr (.movRR 0x30) ∧
    decode 0b1100011111110#13 = .instr (.movAK 0xFE) ∧
    decode 0b0000010000000#13 = .instr (.clra) ∧
    decode 0b0000011001111#13 = .instr (.clrR 0x0F) ∧
    decode 0b0011100000011#13 = .instr (.swapaR 3) ∧
    decode 0b0011101100000#13 = .instr (.swapR 0x20) := by decide

theorem test_decode_arithmetic :
    decode 0b0000000000001#13 = .instr (.daa) ∧
    decode 0b0000100100000#13 = .instr (.subAR 0x20) ∧
    decode 0b0000101100000#13 = .instr (.subRA 0x20) ∧
    decode 0b1110100000101#13 = .instr (.subAK 5) ∧
    decode 0b0001110100000#13 = .instr (.addAR 0x20) ∧
    decode 0b0001111100000#13 = .instr (.addRA 0x20) ∧
    decode 0b1111110000000#13 = .instr (.addAK 0x80) ∧
    decode 0b0000110100000#13 = .instr (.decaR 0x20) ∧
    decode 0b0000111100000#13 = .instr (.decR 0x20) ∧
    decode 0b0010100100000#13 = .instr (.incaR 0x20) ∧
    decode 0b0010101100000#13 = .instr (.incR 0x20) := by decide

theorem test_decode_logic :
    decode 0b0001000100000#13 = .instr (.orAR 0x20) ∧
    decode 0b0001001100000#13 = .instr (.orRA 0x20) ∧
    decode 0b1100100000001#13 = .instr (.orAK 1) ∧
    decode 0b0001010100000#13 = .instr (.andAR 0x20) ∧
    decode 0b0001011100000#13 = .instr (.andRA 0x20) ∧
    decode 0b1101000001111#13 = .instr (.andAK 0x0F) ∧
    decode 0b0001100100000#13 = .instr (.xorAR 0x20) ∧
    decode 0b0001101100000#13 = .instr (.xorRA 0x20) ∧
    decode 0b1101100010010#13 = .instr (.xorAK 0x12) ∧
    decode 0b0010010110000#13 = .instr (.comaR 0x30) ∧
    decode 0b0010011100000#13 = .instr (.comR 0x20) := by decide

theorem test_decode_rotate_bit :
    decode 0b0011000100000#13 = .instr (.rrcaR 0x20) ∧
    decode 0b0011001100000#13 = .instr (.rrcR 0x20) ∧
    decode 0b0011010100000#13 = .instr (.rlcaR 0x20) ∧
    decode 0b0011011100000#13 = .instr (.rlcR 0x20) ∧
    decode 0b0100010000011#13 = .instr (.bc 3 2) ∧
    decode 0b0101110000011#13 = .instr (.bs 3 6) := by decide

theorem test_decode_control :
    decode 0b1011111111111#13 = .instr (.jmp 0x3FF) ∧
    decode 0b1000001000000#13 = .instr (.call 0x40) ∧
    decode 0b0000000010010#13 = .instr (.ret) ∧
    decode 0b1110000110000#13 = .instr (.retl 0x30) ∧
    decode 0b0000000010011#13 = .instr (.reti) ∧
    decode 0b0000000100000#13 = .instr (.tbl) ∧
    decode 0b0110010000011#13 = .instr (.jbc 3 2) ∧
    decode 0b0111010100000#13 = .instr (.jbs 0x20 2) ∧
    decode 0b0010110100000#13 = .instr (.djzaR 0x20) ∧
    decode 0b0010111100000#13 = .instr (.djzR 0x20) ∧
    decode 0b0011110100000#13 = .instr (.jzaR 0x20) ∧
    decode 0b0011111100000#13 = .instr (.jzR 0x20) := by decide

theorem test_decode_unassigned_edges :
    ([0x0005, 0x0015, 0x0021, 0x003F, 0x0081, 0x00BF, 0x1E00, 0x1E02, 0x1E7F, 0x1E90, 0x1EFF] : List Word).all
      (fun x => decode x = .unassigned x) = true := by decide

theorem test_table_word_of_14_bits_refused : decodeTableWord 16 0x2000 = none := by decide
theorem test_table_word_loaded : decodeTableWord 16 0x1E83 = some (.page 3) := by decide

/-! ### One-step vectors (spec/95_test_vectors.md part 2; the number in a name is the word) -/

theorem test_0000_nop : gives (exec .nop at100) (fun t => t = at100.setPc 0x0101) = true := by decide
theorem test_0002_contw : gives (exec .contw { at100 with a := 0x25 }) (fun t => t.cont = 0x25 ∧ t.pc = 0x0101) = true := by decide
theorem test_0014_contr : gives (exec .contr { at100 with cont := 0x25 }) (fun t => t.pc = 0x0101 ∧ t.r3 = 0x18 ∧ t.cont = 0x25) = true := by decide
theorem test_000F_iow : gives (exec (.iow 0xF) { at100 with a := 0xFF }) (fun t => t.iocf = 0x7F) = true := by decide
theorem test_000B_iow_page1 : gives (exec (.iow 0xB) { at100 with a := 0x10, r3 := 0x58 }) (fun t => t.cnt1 = 0x10 ∧ t.iocb = 0) = true := by decide
theorem test_001F_ior : gives (exec (.ior 0xF) { at100 with iocf := 0x41 }) (fun t => t.a = 0x41 ∧ t.r3 = 0x18) = true := by decide
theorem test_0003_slep : gives (exec .slep { at100 with pc := 0x0040, r3 := 0x0C, wdt := 7 }) (fun t => t.r3 = 0x14 ∧ t.wdt = 0 ∧ t.pc = 0x0041 ∧ t.run = .idle) = true := by decide
theorem test_0004_wdtc : gives (exec .wdtc { at100 with r3 := 0, pre := 9, wdt := 7 }) (fun t => t.r3 = 0x18 ∧ t.wdt = 0 ∧ t.pre = 0) = true := by decide
theorem test_0004_wdtc_pab0 : gives (exec .wdtc { at100 with r3 := 0, pre := 9, cont := 0x25 }) (fun t => t.r3 = 0x18 ∧ t.pre = 9) = true := by decide
theorem test_0010_eni : gives (exec .eni at100) (fun t => t.ie = true) = true := by decide
theorem test_0011_disi : gives (exec .disi { at100 with ie := true }) (fun t => t.ie = false) = true := by decide
theorem test_1E01_int : gives (exec .int { at100 with pc := 0x0456, ie := true }) (fun t => t.stack = [0x0457] ∧ t.pc = 1 ∧ t.ie = true) = true := by decide
theorem test_1E83_page : gives (exec (.page 3) { at100 with r5 := 0x10 }) (fun t => t.r5 = 0x13 ∧ t.pc = 0x0101) = true := by decide
theorem test_0060_mov : gives (exec (.movRA 0x20) (with20 0 0x5A)) (fun t => r20 t = 0x5A ∧ t.r3 = 0x18) = true := by decide
theorem test_0040_mov_indirect : gives (exec (.movRA 0) { at100 with a := 0x77, r4 := 0x75 }) (fun t => t.mem.ramRead 0x75 = 0x77) = true := by decide
theorem test_0420_mov : gives (exec (.movAR 0x20) (with20 0 0x55)) (fun t => t.a = 0 ∧ t.flagZ = true) = true := by decide
theorem test_0400_mov_r0_to_r4 : gives (exec (.movAR 0) { at100 with r4 := 4 }) (fun t => t.a = 4 ∧ t.flagZ = false) = true := by decide
theorem test_0460_mov : gives (exec (.movRR 0x20) (with20 0 0)) (fun t => r20 t = 0 ∧ t.flagZ = true) = true := by decide
theorem test_18FF_mov : gives (exec (.movAK 0xFF) at100) (fun t => t.a = 0xFF ∧ t.r3 = 0x18) = true := by decide
theorem test_0080_clra : gives (exec .clra { at100 with a := 0x12 }) (fun t => t.a = 0 ∧ t.flagZ = true) = true := by decide
theorem test_00E0_clr : gives (exec (.clrR 0x20) (with20 0x99 0)) (fun t => r20 t = 0 ∧ t.flagZ = true) = true := by decide
theorem test_00CF_clr : gives (exec (.clrR 0x0F) { at100 with rf := 0x23 }) (fun t => t.rf = 0 ∧ t.flagZ = true) = true := by decide
theorem test_0720_swapa : gives (exec (.swapaR 0x20) (with20 0xA6 0)) (fun t => t.a = 0x6A ∧ r20 t = 0xA6 ∧ t.r3 = 0x18) = true := by decide
theorem test_0760_swap : gives (exec (.swapR 0x20) (with20 0x0F 0)) (fun t => r20 t = 0xF0) = true := by decide
theorem test_0120_sub : gives (exec (.subAR 0x20) (with20 0x50 0x21)) (fun t => t.a = 0x2F ∧ zcdc t = (false, true, false)) = true := by decide
theorem test_0160_sub : gives (exec (.subRA 0x20) (with20 0 1)) (fun t => r20 t = 0xFF ∧ zcdc t = (false, false, false)) = true := by decide
theorem test_1D05_sub : gives (exec (.subAK 5) (with20 0 1)) (fun t => t.a = 4 ∧ zcdc t = (false, true, true)) = true := by decide
theorem test_1D05_sub_borrow : gives (exec (.subAK 5) (with20 0 6)) (fun t => t.a = 0xFF ∧ zcdc t = (false, false, false)) = true := by decide
theorem test_03A0_add : gives (exec (.addAR 0x20) (with20 0x10 0xF0)) (fun t => t.a = 0 ∧ zcdc t = (true, true, false)) = true := by decide
theorem test_03E0_add : gives (exec (.addRA 0x20) (with20 1 0x0F)) (fun t => r20 t = 0x10 ∧ zcdc t = (false, false, true)) = true := by decide
theorem test_1F80_add : gives (exec (.addAK 0x80) (with20 0 0x80)) (fun t => t.a = 0 ∧ zcdc t = (true, true, false)) = true := by decide
theorem test_1F01_add : gives (exec (.addAK 1) (with20 0 0x7F)) (fun t => t.a = 0x80 ∧ zcdc t = (false, false, true)) = true := by decide
theorem test_0001_daa : gives (exec .daa (with20 0 0x7D)) (fun t => t.a = 0x83 ∧ t.flagC = false) = true := by decide
theorem test_0001_daa_carry : gives (exec .daa { at100 with a := 0x20, r3 := 0x19 }) (fun t => t.a = 0x80 ∧ t.flagC = true) = true := by decide
theorem test_0220_or : gives (exec (.orAR 0x20) (with20 0xF0 0x0F)) (fun t => t.a = 0xFF ∧ t.flagZ = false) = true := by decide
theorem test_0260_or : gives (exec (.orRA 0x20) (with20 0x18 0x81)) (fun t => r20 t = 0x99 ∧ t.flagZ = false) = true := by decide
theorem test_1900_or : gives (exec (.orAK 0) at100) (fun t => t.a = 0 ∧ t.flagZ = true) = true := by decide
theorem test_02A0_and : gives (exec (.andAR 0x20) (with20 0xF0 0x0F)) (fun t => t.a = 0 ∧ t.flagZ = true) = true := by decide
theorem test_02E0_and : gives (exec (.andRA 0x20) (with20 0x18 0x81)) (fun t => r20 t = 0 ∧ t.flagZ = true) = true := by decide
theorem test_1AF0_and : gives (exec (.andAK 0xF0) (with20 0 0x3C)) (fun t => t.a = 0x30 ∧ t.flagZ = false) = true := by decide
theorem test_0320_xor : gives (exec (.xorAR 0x20) (with20 0xFF 0xFF)) (fun t => t.a = 0 ∧ t.flagZ = true) = true := by decide
theorem test_0360_xor : gives (exec (.xorRA 0x20) (with20 0x18 0x81)) (fun t => r20 t = 0x99 ∧ t.flagZ = false) = true := by decide
theorem test_1BFF_xor : gives (exec (.xorAK 0xFF) (with20 0 0x55)) (fun t => t.a = 0xAA ∧ t.flagZ = false) = true := by decide
theorem test_01A0_deca : gives (exec (.decaR 0x20) (with20 1 7)) (fun t => t.a = 0 ∧ t.flagZ = true ∧ r20 t = 1) = true := by decide
theorem test_01E0_dec : gives (exec (.decR 0x20) (with20 0 0)) (fun t => r20 t = 0xFF ∧ zcdc t = (false, false, false)) = true := by decide
theorem test_0520_inca : gives (exec (.incaR 0x20) (with20 0x7F 0)) (fun t => t.a = 0x80 ∧ t.flagZ = false) = true := by decide
theorem test_0560_inc : gives (exec (.incR 0x20) { with20 0xFF 0 with r3 := 0x19 }) (fun t => r20 t = 0 ∧ zcdc t = (true, true, false)) = true := by decide
theorem test_0540_inc_pointer : gives (exec (.incR 0) { at100 with r4 := 4 }) (fun t => t.r4 = 5) = true := by decide
theorem test_04B0_coma : gives (exec (.comaR 0x30) { at100 with mem := at100.mem.ramWrite 0x30 0xA5 }) (fun t => t.a = 0x5A ∧ t.flagZ = false) = true := by decide
theorem test_04E0_com : gives (exec (.comR 0x20) (with20 0xFF 0)) (fun t => r20 t = 0 ∧ t.flagZ = true) = true := by decide
theorem test_0620_rrca : gives (exec (.rrcaR 0x20) (with20 1 9)) (fun t => t.a = 0 ∧ zcdc t = (false, true, false) ∧ r20 t = 1) = true := by decide
theorem test_0660_rrc : gives (exec (.rrcR 0x20) { with20 0x80 0 with r3 := 0x19 }) (fun t => r20 t = 0xC0 ∧ t.flagC = false) = true := by decide
theorem test_06A0_rlca : gives (exec (.rlcaR 0x20) (with20 0x80 9)) (fun t => t.a = 0 ∧ t.flagC = true) = true := by decide
theorem test_06E0_rlc : gives (exec (.rlcR 0x20) { with20 0x55 0 with r3 := 0x19 }) (fun t => r20 t = 0xAB ∧ t.flagC = false) = true := by decide
theorem test_080F_bc : gives (exec (.bc 0x0F 0) { at100 with rf := 3 }) (fun t => t.rf = 2) = true := by decide
theorem test_08C3_bc_p_kept : gives (exec (.bc 3 3) at100) (fun t => t.r3 = 0x18) = true := by decide
theorem test_0B83_bs : gives (exec (.bs 3 6) at100) (fun t => t.r3 = 0x58) = true := by decide
theorem test_0A0F_bs_rf : gives (exec (.bs 0x0F 0) at100) (fun t => t.rf = 0) = true := by decide
theorem test_1405_jmp : gives (exec (.jmp 5) { at100 with r5 := 0x13 }) (fun t => t = { at100 with r5 := 0x13, pc := 0x4C05 }) = true := by decide
theorem test_1000_call : gives (exec (.call 0) { at100 with pc := 0x7FFE }) (fun t => t.stack = [0x7FFF] ∧ t.pc = 0) = true := by decide
theorem test_0012_ret : gives (exec .ret { at100 with stack := [0x4C05, 0x1234] }) (fun t => t.pc = 0x4C05 ∧ t.stack = [0x1234] ∧ t.r5 = 0) = true := by decide
theorem test_1C30_retl : gives (exec (.retl 0x30) { at100 with stack := [0x0012] }) (fun t => t.a = 0x30 ∧ t.pc = 0x0012 ∧ t.stack = []) = true := by decide
theorem test_0013_reti : gives (exec .reti { at100 with stack := [0x0025] }) (fun t => t.pc = 0x0025 ∧ t.ie = true) = true := by decide
theorem test_0020_tbl : gives (exec .tbl { at100 with pc := 0x02FE, a := 5 }) (fun t => t.pc = 0x0204 ∧ zcdc t = (false, true, true)) = true := by decide
theorem test_0020_tbl_block_end : gives (exec .tbl { at100 with pc := 0x02FF }) (fun t => t.pc = 0x0200 ∧ zcdc t = (true, false, false)) = true := by decide
theorem test_0042_mov_r2 : gives (exec (.movRA 2) { at100 with pc := 0x0345, r5 := 1, a := 0x80 }) (fun t => t.pc = 0x0480) = true := by decide
theorem test_03C2_add_r2 : gives (exec (.addRA 2) { at100 with pc := 0x07FF, r5 := 1, a := 0xFF }) (fun t => t.pc = 0x04FF ∧ zcdc t = (false, false, false)) = true := by decide
theorem test_0C83_jbc : gives (exec (.jbc 3 2) { at100 with r3 := 0x1C }) (fun t => t.pc = 0x0101) = true := by decide
theorem test_0C83_jbc_skip : gives (exec (.jbc 3 2) at100) (fun t => t.pc = 0x0102) = true := by decide
theorem test_0EA0_jbs_skip : gives (exec (.jbs 0x20 2) (with20 4 0)) (fun t => t.pc = 0x0102) = true := by decide
theorem test_0EA0_jbs : gives (exec (.jbs 0x20 2) (with20 0 0)) (fun t => t.pc = 0x0101) = true := by decide
theorem test_05A0_djza : gives (exec (.djzaR 0x20) (with20 1 0x33)) (fun t => t.a = 0 ∧ r20 t = 1 ∧ t.pc = 0x0102 ∧ t.r3 = 0x18) = true := by decide
theorem test_05E0_djz : gives (exec (.djzR 0x20) (with20 1 0)) (fun t => r20 t = 0 ∧ t.pc = 0x0102 ∧ t.r3 = 0x18) = true := by decide
theorem test_05E0_djz_wrap : gives (exec (.djzR 0x20) (with20 0 0)) (fun t => r20 t = 0xFF ∧ t.pc = 0x0101) = true := by decide
theorem test_07A0_jza : gives (exec (.jzaR 0x20) (with20 0xFE 0x33)) (fun t => t.a = 0xFF ∧ t.pc = 0x0101) = true := by decide
theorem test_07E0_jz : gives (exec (.jzR 0x20) (with20 0xFF 0)) (fun t => r20 t = 0 ∧ t.pc = 0x0102 ∧ t.flagZ = false) = true := by decide

theorem test_000D_iow_page1 : refuses (exec (.iow 0xD) { at100 with r3 := 0x58 }) .controlPageAbsent = true := by decide
theorem test_0040_pointer_zero : refuses (exec (.movRA 0) { at100 with r4 := 0x40 }) .indirectPointerZero = true := by decide
theorem test_00C3_clr_r3 : refuses (exec (.clrR 3) at100) .statusDestination = true := by decide
theorem test_03C3_add_r3 : refuses (exec (.addRA 3) at100) .statusDestination = true := by decide
theorem test_054E_inc_re : refuses (exec (.incR 0x0E) at100) .dataRomWrite = true := by decide
theorem test_0542_inc_r2 : refuses (exec (.incR 2) at100) .programCounterDestination = true := by decide
theorem test_1040_call_full : refuses (exec (.call 0x40) { at100 with stack := [1, 2, 3, 4, 5, 6, 7, 8] }) .stackFull = true := by decide
theorem test_0012_ret_empty : refuses (exec .ret at100) .stackEmpty = true := by decide
theorem test_05E0_skip_past_end : refuses (exec (.djzR 0x20) { with20 1 0 with pc := 0x7FFE }) .pastProgramEnd = true := by decide
theorem test_0005_unassigned : refuses (step (State.reset.withFetchWord 16 0x0005)) (.unassignedWord 0x0005) = true := by
  decide

/-! ### Devices: read-modify-write of a port, data ROM, LCD RAM -/

/-- BS R6,3 copies the pins of the inputs into the latch (R114). -/
theorem test_bs_port : gives (exec (.bs 6 3)
    { at100 with p6 := { latch := 0x00, dir := 0x0F, ext := 0x05, driven := 0x0F } }) (fun t => t.p6.latch = 0x0D) = true := by
  decide

/-- The data ROM address has its low byte in RB (R108). -/
theorem test_data_rom : gives (exec (.movAR 0x0E)
    { at100 with rd := 1, rc := 2, rb := 3, mem := { Memory.empty with drom := [(0x010203, 0x5A)] } })
    (fun t => t.a = 0x5A) = true := by decide

/-- A store through R12 and the byte read back (R109). -/
theorem test_lcd : gives (exec (.movRA 0x12) { at100 with a := 0x33, r11 := 0xF, r10 := 0xFE })
    (fun t => t.mem.lcdRead 0xFFE = 0x33 ∧ gives (exec (.movAR 0x12) (t.setA 0)) (fun u => u.a = 0x33)) = true := by decide

/-! ### Events, interrupt entry, wake-up, reset (spec/95_test_vectors.md section 2.7) -/

/-- All pins of port 6 are inputs that the outside drives high. -/
def highPort : Port := { latch := 0, dir := 0xFF, ext := 0xFF, driven := 0xFF }

theorem test_edge_p60 : (occur (.pin .port6 0 (.driven false)) { at100 with p6 := highPort, iocf := 0x02 }).rf = 0x02 := by
  decide
theorem test_edge_p60_masked : (occur (.pin .port6 0 (.driven false)) { at100 with p6 := highPort }).rf = 0 := by decide
theorem test_edge_p63_shared : (occur (.pin .port6 3 (.driven false)) { at100 with p6 := highPort, iocf := 0x08 }).rf = 0x08 := by
  decide
theorem test_edge_p67_shared : (occur (.pin .port6 7 (.driven false)) { at100 with p6 := highPort, iocf := 0x10 }).rf = 0x10 := by
  decide

/-- A program that clears a latch of an output pin of port 6 makes the edge itself (R323). -/
theorem test_edge_by_program : gives (step (running [(0x100, 0x0046)]
    { at100 with p6 := { highPort with latch := 0x01, dir := 0xFE }, iocf := 0x02 })) (fun t => t.rf = 0x02) = true := by decide

/-- At 0x0025 with the TCC's request pending. -/
def requested : State :=
  running [(0x0025, 0x1425)] { State.reset with pc := 0x0025, ie := true, rf := 1, iocf := 1 }

theorem test_interrupt_entry : gives (step requested)
    (fun t => t.stack = [0x0025] ∧ t.pc = 0x0008 ∧ t.ie = false ∧ t.rf = 1) = true := by decide
theorem test_interrupt_disabled : gives (step { requested with ie := false })
    (fun t => t.pc = 0x0025 ∧ t.stack = [] ∧ t.rf = 1) = true := by decide
theorem test_interrupt_masked : gives (step { requested with iocf := 0 }) (fun t => t.pc = 0x0025 ∧ t.stack = []) = true := by
  decide
theorem test_interrupt_held : gives (step { requested with irqHold := true })
    (fun t => t.pc = 0x0025 ∧ t.stack = [] ∧ t.irqHold = false) = true := by decide
theorem test_tcc_overflow : (let t := occur .tccTick { at100 with tcc := 0xFF, iocf := 1 }; t.tcc = 0 ∧ t.rf = 1) := by decide
theorem test_tcc_overflow_masked : (let t := occur .tccTick { at100 with tcc := 0xFF }; t.tcc = 0 ∧ t.rf = 0) := by decide
theorem test_tcc_prescaled : (let t := occur .tccTick { at100 with cont := 0x22, pre := 7, tcc := 4 }; t.tcc = 5 ∧ t.pre = 8) := by
  decide
theorem test_counter2_overflow : (let t := occur .counter2Tick { at100 with cnt2 := 0xFF, iocf := 0x40 }; t.cnt2 = 0 ∧ t.rf = 0x40) := by
  decide
theorem test_counter1_prescaled : (let t := occur .counter1Tick { at100 with ioca := 2, cpre1 := 2, cnt1 := 9 }; t.cnt1 = 9) := by
  decide

/-- Idle after SLEP at 0x0040. -/
def asleep : State := { State.reset with pc := 0x0041, r3 := 0x14, run := .idle, p9 := highPort }

theorem test_wake_tcc : (let t := occur .tccTick { asleep with tcc := 0xFF, iocf := 1 };
    t.run = .running ∧ t.rf = 1 ∧ t.r3 = 0x14 ∧ t.pc = 0x0041) := by decide
theorem test_wake_p91 : (let t := occur (.pin .port9 1 (.driven false)) { asleep with ra := 2 };
    t.run = .running ∧ t.rf = 0 ∧ t.r3 = 0x14) := by decide
theorem test_no_wake_p91 : (occur (.pin .port9 1 (.driven false)) asleep).run = .idle := by decide
theorem test_no_wake_p93 : (occur (.pin .port9 3 (.driven false)) { asleep with ra := 7 }).run = .idle := by decide
theorem test_wake_watchdog : (let t := occur .watchdog { asleep with ra := 8 };
    t.run = .running ∧ t.r3 = 0x04 ∧ t.ra = 8 ∧ t.pc = 0x0041) := by decide
theorem test_watchdog_reset : (let t := occur .watchdog { at100 with ra := 8 }; t.pc = 0 ∧ t.ra = 0) := by decide
theorem test_no_wake_before_min_steps : (let s := { asleep with ra := 8, wdt := 4, cfg := { Config.defaults with wdtMinSteps := 5 } };
    occur .watchdog s = s ∧ gives (step s) (fun t => (occur .watchdog t).run = .running) = true) := by decide
/-- R375's two examples; a main clock buzzer has its clock in normal mode only (R351). -/
theorem test_buzzer_sub_clock : { at100 with ioce := 1, iocd := 0x4A }.buzzerHz = some 442 ∧
    { asleep with ioce := 1, iocd := 0x4A }.buzzerHz = some 442 := by decide
theorem test_buzzer_main_clock : { at100 with ioce := 3, iocd := 0x4A, ra := 0x40 }.buzzerHz = some 13513 ∧
    { at100 with ioce := 3, iocd := 0x4A }.buzzerHz = none ∧ { asleep with ioce := 3, iocd := 0x4A, ra := 0x40 }.buzzerHz = none := by
  decide
theorem test_watchdog_disabled : occur .watchdog at100 = at100 := by decide
theorem test_power_on : (let t := occur (.supplyReset .powerOn) { asleep with r5 := 3, rf := 1, iocf := 1, cont := 0 };
    t.pc = 0 ∧ t.run = .running ∧ t.r5 = 0 ∧ t.rf = 0 ∧ t.iocf = 0 ∧ t.cont = 0xFF ∧ t.p9.dir = 0xFF ∧ t.stack = []) := by decide
theorem test_detector_not_chosen : occur (.supplyReset .voltageDetector) at100 = at100 := by decide
theorem test_reset_pin_holds : (let t := occur (.resetPin true) { at100 with stack := [1] };
    t.pc = 0 ∧ t.resetLow = true ∧ t.stack = [] ∧ gives (step t) (fun u => u.pc = 0 ∧ u.resetLow)) := by decide
theorem test_event_before_cpu : gives (step { at100 with agenda := [.event (.supply .below22), .cpu] })
    (fun t => t.lpd = true ∧ t.pc = 0x0100 ∧ t.agenda = [.cpu]) = true := by decide

/-! ### Witnesses: a state and operands that meet the hypotheses of each obligation -/

/-- The cells that designators 1 to 0x3F and R0 name in `at100`, one of each kind. -/
theorem witness_cells :
    names 1 at100 .tcc ∧ names 2 at100 .pcl ∧ names 3 at100 .status ∧ names 4 at100 .rsr ∧ names 5 at100 .page ∧
    names 6 at100 (.port .port6) ∧ names 9 at100 (.port .port9) ∧ names 0x0A at100 .ra ∧ names 0x0B at100 .rb ∧
    names 0x0C at100 .rc ∧ names 0x0D at100 .rd ∧ names 0x0E at100 .re ∧ names 0x0F at100 .rf ∧ names 0x10 at100 .r10 ∧
    names 0x11 at100 .r11 ∧ names 0x12 at100 .r12 ∧ names 0x13 at100 (.gpr 0x13) ∧ names 0x3F at100 (.gpr 0x3F) ∧
    names 0 { at100 with r4 := 0xFF } (.gpr 0xFF) := by decide

/-- R12 names an LCD RAM byte that exists, the last one of all. -/
def lastLcd : State := { at100 with r11 := 0xF, r10 := 0xFF }

theorem witness_DecodeOfEncode : (Instr.iow 6).wellFormed = true ∧ (Instr.ior 15).wellFormed = true := by decide
theorem witness_EncodeOfDecode : decode 0x0006 = .instr (.iow 6) ∧ decode 0x1FFF = .instr (.addAK 0xFF) := by decide

/-- The reset state about to run one word. -/
def fetching (x : Nat) : State := State.reset.withFetchWord 16 x

theorem fetching_moves (x : Nat) (l : List Turn) :
    cpuMoves { fetching x with agenda := .cpu :: l } { fetching x with agenda := l } :=
  .inr ⟨l, rfl, rfl⟩

theorem witness_UnassignedWordsAreRefused :
    ([0x0005, 0x0015, 0x0021, 0x003F, 0x0081, 0x00BF, 0x1E00, 0x1E02, 0x1E7F, 0x1E90, 0x1EFF] : List Nat).all
      (fun x => refuses (step (fetching x)) (.unassignedWord (BitVec.ofNat 13 x))) = true ∧
    cpuMoves (fetching 0x1E90) (fetching 0x1E90) ∧ executes (fetching 0x1E90) ∧
    (fetching 0x1E90).mem.romRead (fetching 0x1E90).pc.toNat = some 0x1E90#13 :=
  ⟨by decide, .inl ⟨rfl, rfl⟩, ⟨rfl, rfl, .inl rfl⟩, by decide⟩

theorem witness_StepRunsDecodedInstruction :
    cpuMoves (fetching 0x18FF) (fetching 0x18FF) ∧ executes (fetching 0x18FF) ∧
    (fetching 0x18FF).mem.romRead 0 = some 0x18FF#13 ∧ decode 0x18FF#13 = .instr (.movAK 0xFF) ∧
    gives (exec (.movAK 0xFF) { fetching 0x18FF with wdt := 1, irqHold := false }) (fun t => t.a = 0xFF) = true ∧
    refuses (exec .ret { fetching 0x0012 with wdt := 1, irqHold := false }) .stackEmpty = true ∧
    faults (exec (.movAR 0x12) { fetching 0x0412 with wdt := 1, irqHold := false, cfg := { Config.defaults with lcdSize := 0 } })
      (.lcdCellAbsent 0) = true :=
  ⟨.inl ⟨rfl, rfl⟩, ⟨rfl, rfl, .inl rfl⟩, by decide, by decide, by decide, by decide, by decide⟩

/-- Seven entries: the last push that fits. -/
def seven : List Addr := [1, 2, 3, 4, 5, 6, 7]

theorem witness_InterruptEntryAtBoundary :
    cpuMoves requested requested ∧ requested.resetLow = false ∧ requested.run = .running ∧ requested.irqHold = false ∧
    requested.ie = true ∧ requested.rf &&& requested.iocf ≠ 0#7 ∧
    gives (step { requested with stack := seven }) (fun t => t.pc = 8 ∧ t.stack = 0x0025 :: seven) = true ∧
    refuses (step { requested with stack := 8 :: seven }) .stackFull = true :=
  ⟨.inl ⟨rfl, rfl⟩, rfl, rfl, rfl, rfl, by decide, by decide, by decide⟩

theorem witness_UnknownProgramCellStops :
    cpuMoves State.reset State.reset ∧ executes State.reset ∧ State.reset.mem.romRead State.reset.pc.toNat = none ∧
    faults (step State.reset) (.romCellUnknown 0) = true :=
  ⟨.inl ⟨rfl, rfl⟩, ⟨rfl, rfl, .inl rfl⟩, by decide, by decide⟩

theorem witness_IdleOrHeldCpuDoesNothing :
    cpuMoves asleep asleep ∧ asleep.run = .idle ∧ gives (step { asleep with agenda := [.cpu] }) (fun t => t = { asleep with wdt := 1 }) = true ∧ asleep.resetLow = false ∧
    cpuMoves { at100 with resetLow := true } { at100 with resetLow := true } :=
  ⟨.inl ⟨rfl, rfl⟩, rfl, by decide, rfl, .inl ⟨rfl, rfl⟩⟩

theorem witness_StepKeepsInvariant :
    requested.inv ∧ gives (step requested) (fun t => t.pc = 8) = true ∧
    asleep.inv ∧ gives (step { asleep with agenda := [.event (.resetPin true)] }) (fun t => t.resetLow) = true :=
  ⟨by unfold State.inv; decide, by decide, by unfold State.inv; decide, by decide⟩

theorem witness_ProgramIsNeverWritten :
    gives (step (fetching 0x0060)) (fun t => t.mem.romRead 0 = some 0x0060 ∧ t.mem.romRead 1 = none) = true := by decide
theorem witness_DataRomAndParametersAreFixed : gives (step (fetching 0x0060)) (fun t => t.cfg = Config.defaults) = true := by
  decide

theorem witness_DesignatorsNameCells :
    resolve 0 at100 = .refused .indirectPointerZero ∧
    resolve 0x13 { at100 with r4 := 0xC0 } = .next (.gpr 0xD3) ∧ resolve 0 { at100 with r4 := 0xFF } = .next (.gpr 0xFF) ∧
    resolve 0x13 { at100 with r4 := 0xC0, cfg := { Config.defaults with bankSplit := .r20 } } = .next (.gpr 0x13) ∧
    resolve 0x1F { at100 with r4 := 0xC0, cfg := { Config.defaults with bankSplit := .r20 } } = .next (.gpr 0x1F) ∧
    resolve 0x20 { at100 with r4 := 0xC0, cfg := { Config.defaults with bankSplit := .r20 } } = .next (.gpr 0xE0) :=
  ⟨rfl, rfl, rfl, rfl, rfl, rfl⟩

theorem witness_ReadsReturnCells :
    256 * lastLcd.r11.toNat + lastLcd.r10.toNat < lastLcd.cfg.lcdSize.val ∧ lastLcd.cfg.lcdReadsBack = true ∧
    { at100 with r3 := 0x98 }.lpdEnabled = true ∧
    (at100.port .port6).dir.getLsbD 7 = true ∧ ({ at100 with p6 := highPort }.port .port6).driven.getLsbD 7 = true ∧
    (at100.port .port6).driven.getLsbD 0 = false ∧ ({ at100 with iocb := 1 }.pullHigh .port6).getLsbD 0 = true ∧
    ({ at100 with p6 := { highPort with dir := 0 } }.port .port6).dir.getLsbD 0 = false := by decide

theorem witness_WritesAreReadBack :
    lastLcd.mem.wf ∧ present .r12 lastLcd ∧ lastLcd.cfg.lcdReadsBack = true ∧ present (.gpr 0xFF) lastLcd ∧
    present .status lastLcd ∧ present (.port .port9) lastLcd := by decide

theorem witness_RegisterDestinationFrame :
    Instr.bs 0x20 7 ∈ registerDestination 0x20 7 ∧ names 0x20 at100 (.gpr 0x20) ∧
    gives (exec (.bs 0x20 7) at100) (fun t => r20 t = 0x80) = true := by decide

/-- A designator with its cell, present, where the next word exists: the last such `pc`. -/
theorem witness_operands :
    names 0x20 { at100 with pc := 0x7FFE } (.gpr 0x20) ∧ present (.gpr 0x20) { at100 with pc := 0x7FFE } ∧
    { at100 with pc := 0x7FFE }.pc ≠ 0x7FFF#15 ∧ names 3 at100 .status ∧ present .status at100 ∧
    names 0x12 lastLcd .r12 ∧ present .r12 lastLcd ∧ lastLcd.pc ≠ 0x7FFF#15 := by decide

theorem witness_LogicToAccumulator :
    names 0x12 { lastLcd with pc := 0x7FFE } .r12 ∧ present .r12 { lastLcd with pc := 0x7FFE } ∧
    gives (exec (.movAR 0x12) { lastLcd with pc := 0x7FFE }) (fun t => t.pc = 0x7FFF) = true := by decide

theorem witness_RotatesAndSwapToAccumulator :
    names 0x12 { lastLcd with pc := 0x7FFE } .r12 ∧ present .r12 { lastLcd with pc := 0x7FFE } ∧
    gives (exec (.rrcaR 0x12) { lastLcd with pc := 0x7FFE }) (fun t => t.pc = 0x7FFF) = true := by decide

theorem witness_LogicToRegister :
    names 0x12 { lastLcd with pc := 0x7FFE } .r12 ∧ present .r12 { lastLcd with pc := 0x7FFE } ∧
    gives (exec (.orRA 0x12) { lastLcd with pc := 0x7FFE }) (fun t => t.pc = 0x7FFF) = true := by decide

theorem witness_RotatesToRegister :
    names 0x12 { lastLcd with pc := 0x7FFE } .r12 ∧ present .r12 { lastLcd with pc := 0x7FFE } ∧
    gives (exec (.rlcR 0x12) { lastLcd with pc := 0x7FFE }) (fun t => t.pc = 0x7FFF) = true := by decide

theorem witness_StoresWithoutFlags :
    names 0x12 { lastLcd with pc := 0x7FFE } .r12 ∧ present .r12 { lastLcd with pc := 0x7FFE } ∧
    gives (exec (.swapR 0x12) { lastLcd with pc := 0x7FFE }) (fun t => t.pc = 0x7FFF) = true := by decide

theorem witness_SubtractionAndItsFlags :
    names 0x12 { lastLcd with pc := 0x7FFE } .r12 ∧ present .r12 { lastLcd with pc := 0x7FFE } ∧
    gives (exec (.subRA 0x12) { lastLcd with pc := 0x7FFE }) (fun t => t.pc = 0x7FFF) = true := by decide

theorem witness_LiteralsToAccumulator :
    { at100 with pc := 0x7FFE }.pc ≠ 0x7FFF#15 ∧
    gives (exec (.movAK 1) { at100 with pc := 0x7FFE }) (fun t => t.pc = 0x7FFF) = true := by decide
theorem witness_DecimalAdjust :
    { at100 with pc := 0x7FFE }.pc ≠ 0x7FFF#15 ∧
    gives (exec .daa { at100 with pc := 0x7FFE, a := 0x7D }) (fun t => t.a = 0x83 ∧ t.pc = 0x7FFF) = true ∧
    (99 : Nat) < 100 ∧ daaDefault 0x32 true true = (0x98, true) := by decide
theorem witness_AdditionAndItsFlags :
    names 2 { at100 with pc := 0x7FFF } .pcl ∧ present .pcl { at100 with pc := 0x7FFF } ∧
    gives (exec (.addRA 2) { at100 with pc := 0x7FFF }) (fun t => t.pc = 0) = true ∧
    gives (exec .tbl { at100 with pc := 0x7FFF }) (fun t => t.pc = 0x7F00) = true ∧
    names 0x20 at100 (.gpr 0x20) ∧ at100.pc ≠ 0x7FFF#15 := by decide
theorem witness_PagedJumps :
    ({ at100 with r4 := 0xC2 }.r4.toNat % 64 = 2) ∧ at100.pc ≠ 0x7FFF#15 ∧ seven.length < 8 ∧
    gives (exec (.call 0x3FF) { at100 with pc := 0x7FFE, stack := seven }) (fun t => t.pc = 0x03FF) = true ∧
    refuses (exec (.call 0) { at100 with stack := 8 :: seven }) .stackFull = true ∧
    refuses (exec (.call 0) { at100 with pc := 0x7FFF }) .pastProgramEnd = true := by decide
theorem witness_Returns :
    at100.stack = [] ∧ { at100 with stack := [0x7FFF] }.stack = 0x7FFF#15 :: [] ∧ refuses (exec .reti at100) .stackEmpty = true := by decide
theorem witness_SoftwareInterrupt :
    { at100 with pc := 0x7FFE }.pc ≠ 0x7FFF#15 ∧
    seven.length < 8 ∧ 8 ≤ (8 :: seven).length ∧
    gives (exec .int { at100 with pc := 0x7FFE, stack := seven }) (fun t => t.stack = 0x7FFF :: seven) = true ∧
    refuses (exec .int { at100 with stack := 8 :: seven }) .stackFull = true := by decide
theorem witness_BitTestSkips :
    names 0x20 { at100 with pc := 0x7FFE } (.gpr 0x20) ∧ { at100 with pc := 0x7FFE }.pc ≠ 0x7FFF#15 ∧
    present (.gpr 0x20) { at100 with pc := 0x7FFE } ∧ { at100 with pc := 0x7FFD }.pc.toNat < 0x7FFE ∧
    gives (exec (.jbs 0x20 7) { at100 with pc := 0x7FFE }) (fun t => t.pc = 0x7FFF) = true ∧
    gives (exec (.jbc 0x20 7) { at100 with pc := 0x7FFD }) (fun t => t.pc = 0x7FFF) = true ∧
    gives (exec (.jbc 0x20 7) { with20 0x80 0 with pc := 0x7FFE }) (fun t => t.pc = 0x7FFF) = true ∧
    gives (exec (.jbs 0x20 7) { with20 0x80 0 with pc := 0x7FFD }) (fun t => t.pc = 0x7FFF) = true := by decide
theorem witness_CountSkipsToAccumulator :
    names 0x20 { with20 2 0 with pc := 0x7FFE } (.gpr 0x20) ∧ present (.gpr 0x20) { with20 2 0 with pc := 0x7FFE } ∧
    { with20 1 0 with pc := 0x7FFD }.pc.toNat < 0x7FFE ∧
    gives (exec (.djzaR 0x20) { with20 1 0 with pc := 0x7FFD }) (fun t => t.pc = 0x7FFF) = true ∧
    gives (exec (.djzaR 0x20) { with20 2 0 with pc := 0x7FFE }) (fun t => t.pc = 0x7FFF ∧ t.a = 1) = true ∧
    gives (exec (.jzaR 0x20) { with20 0xFF 0 with pc := 0x7FFD }) (fun t => t.pc = 0x7FFF) = true ∧
    gives (exec (.jzaR 0x20) { with20 2 0 with pc := 0x7FFE }) (fun t => t.pc = 0x7FFF ∧ t.a = 3) = true := by decide
theorem witness_CountSkipsToRegister :
    gives (exec (.jzR 0x20) { with20 0xFF 0 with pc := 0x7FFD }) (fun t => t.pc = 0x7FFF) = true ∧
    gives (exec (.jzR 0x20) { with20 2 0 with pc := 0x7FFE }) (fun t => t.pc = 0x7FFF ∧ r20 t = 3) = true ∧
    gives (exec (.djzR 0x20) { with20 1 0 with pc := 0x7FFD }) (fun t => t.pc = 0x7FFF) = true ∧
    gives (exec (.djzR 0x20) { with20 2 0 with pc := 0x7FFE }) (fun t => t.pc = 0x7FFF ∧ r20 t = 1) = true ∧
    names 3 at100 .status ∧ present .status at100 ∧ at100.pc ≠ 0x7FFF#15 ∧ Cell.status ≠ .pcl ∧ Cell.status ≠ .re := by decide
theorem witness_ProgramCounterOfEveryInstruction :
    gives (exec (.jmp 1) at100) (fun t => t.pc = 1) = true ∧ gives (exec (.jbs 3 3) at100) (fun t => t.pc = 0x0102) = true ∧
    gives (exec (.movRA 2) at100) (fun t => t.pc = 0) = true ∧ names 2 at100 .pcl ∧ ¬ names 3 at100 .pcl := by decide
theorem witness_NopEniDisiPage :
    { at100 with pc := 0x7FFE }.pc ≠ 0x7FFF#15 ∧
    gives (exec (.page 15) { at100 with pc := 0x7FFE, r5 := 0x1F }) (fun t => t.r5 = 0x1F) = true := by decide
theorem witness_ContwAndContr :
    at100.pc ≠ 0x7FFF#15 ∧ { at100 with a := 0x9F }.a.extractLsb' 0 4 = at100.cont.extractLsb' 0 4 ∧
    gives (exec .contw { at100 with a := 0x9F, pre := 5 }) (fun t => t.pre = 5 ∧ t.cont = 0x9F) = true := by decide
theorem witness_SlepAndWdtc :
    { at100 with pc := 0x7FFE }.pc ≠ 0x7FFF#15 ∧
    gives (exec .slep { at100 with pc := 0x7FFE }) (fun t => t.pc = 0x7FFF ∧ t.run = .idle) = true := by decide
theorem witness_ControlRegisterWrites :
    at100.pc ≠ 0x7FFF#15 ∧ at100.r3.getLsbD 6 = false ∧ { at100 with r3 := 0x58 }.r3.getLsbD 6 = true ∧
    gives (exec (.iow 0xE) { at100 with a := 0xFE }) (fun t => t.ioce = 2) = true ∧
    gives (exec (.iow 0xC) { at100 with a := 0xFE, r3 := 0x58 }) (fun t => t.cnt2 = 0xFE ∧ t.iocc = 0) = true := by decide
theorem witness_ControlRegisterReads :
    at100.pc ≠ 0x7FFF#15 ∧ at100.r3.getLsbD 6 = false ∧ { at100 with r3 := 0x58 }.r3.getLsbD 6 = true ∧
    gives (exec (.ior 0xA) { at100 with ioca := 0xA }) (fun t => t.a = 0xA0) = true ∧
    gives (exec (.ior 0xB) { at100 with cnt1 := 9, r3 := 0x58 }) (fun t => t.a = 9) = true := by decide
theorem witness_RefusedDestinations :
    (Instr.jzR 2 ∈ registerDestination 2 0 ∧ Instr.jzR 2 ≠ .movRA 2 ∧ Instr.jzR 2 ≠ .addRA 2 ∧ names 2 at100 .pcl) ∧
    (Instr.clrR 3 ∈ flaggedDestination 3 ∧ names 3 at100 .status) ∧
    (Instr.bs 0 7 ∈ registerDestination 0 7 ∧ names 0 { at100 with r4 := 0x0E } .re) := by decide
theorem witness_NothingPassesTheProgramEnd :
    gives (exec (.jmp 0) { at100 with pc := 0x7FFF }) (fun t => t.pc = 0) = true ∧
    refuses (exec .slep { at100 with pc := 0x7FFF }) .pastProgramEnd = true ∧
    (¬ ({ at100 with r3 := 0x58 }.r3.getLsbD 6 = true ∧ (6#4 = 0xD#4 ∨ 6#4 = 0xE#4)) ∧ 6 ≤ (6#4).toNat ∧
      refuses (exec (.iow 6) { at100 with pc := 0x7FFF, r3 := 0x58 }) .pastProgramEnd = true) ∧
    (Instr.jbs 3 0 ∈ registerSource 3 0 ∧ refuses (exec (.jbs 3 0) { at100 with pc := 0x7FFF }) .pastProgramEnd = true) ∧
    (Instr.swapR 3 ∈ registerDestination 3 0 ∧ Instr.swapR 3 ∉ flaggedDestination 3 ∧
      refuses (exec (.bs 3 0) { at100 with pc := 0x7FFF }) .pastProgramEnd = true) ∧
    (refuses (exec (.jbs 3 3) { at100 with pc := 0x7FFE }) .pastProgramEnd = true ∧
      refuses (exec (.jbc 3 2) { at100 with pc := 0x7FFE }) .pastProgramEnd = true) ∧
    refuses (exec (.jzR 0x20) { with20 0xFF 0 with pc := 0x7FFE }) .pastProgramEnd = true ∧
    refuses (exec (.djzaR 0x20) { with20 1 0 with pc := 0x7FFE }) .pastProgramEnd = true := by decide
/-- The read that the bit tests above make (P is 1, Z is 0). -/
theorem witness_NothingPassesTheProgramEnd_read (care : Byte) (h : 0x20#8 &&& care = 0#8) :
    readCell care .status at100 = .next (0x18, at100) := by
  simp [readCell, peekCell, andThen, h, at100, State.reset]
theorem witness_StackLimits :
    8 ≤ { at100 with stack := 8 :: seven }.stack.length ∧ at100.pc ≠ 0x7FFF#15 ∧ at100.stack = [] := by decide
theorem witness_IndirectThroughZeroIsRefused :
    { at100 with r4 := 0xC0 }.r4.extractLsb' 0 6 = 0#6 ∧ Instr.clrR 0 ∈ registerDestination 0#6 0 ++ registerSource 0#6 0 ∧
    Instr.jbs 0 7 ∈ registerDestination 0#6 7 ++ registerSource 0#6 7 := by decide

/-- An LCD RAM of 0xFFF bytes: the last address is the first absent one. -/
def shortLcd : State := { lastLcd with cfg := { Config.defaults with lcdSize := 0xFFF } }

theorem witness_AbsentLcdCellFaults :
    names 0x12 shortLcd .r12 ∧ shortLcd.cfg.lcdSize.val ≤ shortLcd.lcdAddress ∧
    faults (exec (.clrR 0x12) shortLcd) (.lcdCellAbsent 0xFFF) = true ∧
    gives (exec (.clrR 0x12) { shortLcd with r10 := 0xFE }) (fun t => t.flagZ) = true := by decide
theorem witness_AbsentControlRegisters :
    { at100 with r3 := 0x58 }.r3.getLsbD 6 = true ∧ (5#4).toNat < 6 ∧
    refuses (exec (.ior 0xE) { at100 with r3 := 0x58 }) .controlPageAbsent = true := by decide
theorem witness_SoftwareOnlyClearsFlags : gives (exec (.movRA 0x0F) { at100 with a := 0xFF }) (fun t => t.rf = 0) = true := by
  decide
theorem witness_OnlyCallsAndReturnsMoveTheStack :
    gives (exec (.call 0) { at100 with stack := seven }) (fun t => t.stack = 0x0101 :: seven) = true ∧
    gives (exec .reti { at100 with stack := seven }) (fun t => seven = t.pc :: t.stack) = true := by decide
theorem witness_OnlyEniDisiRetiChangeTheEnable :
    gives (exec .reti { at100 with stack := seven }) (fun t => t.ie) = true ∧
    gives (exec .int { at100 with ie := true }) (fun t => t.ie) = true := by decide
theorem witness_IdleIsEnteredBySlepOnly :
    (fetching 3).run = .running ∧ gives (step (fetching 3)) (fun t => t.run = .idle) = true := by decide
theorem witness_IdleIsLeftByWakeUpOrReset :
    asleep.run = .idle ∧
    gives (step { asleep with tcc := 0xFF, iocf := 1, agenda := [.event .tccTick] }) (fun t => t.run = .running) = true ∧
    gives (step { asleep with ra := 8, agenda := [.event .watchdog] }) (fun t => t.run = .running) = true ∧
    gives (step { asleep with ra := 4, agenda := [.event (.pin .port9 2 (.driven false))] }) (fun t => t.run = .running) = true ∧
    gives (step { asleep with agenda := [.event (.supplyReset .powerOn)] }) (fun t => t.run = .running) = true ∧
    gives (step { asleep with agenda := [.event (.resetPin true)] }) (fun t => t.run = .running) = true := by decide
theorem witness_EventsRaiseMaskedFlagsOnly :
    (occur .counter1Tick { at100 with cnt1 := 0xFF, iocf := 0x20 }).rf = 0x20 ∧
    (occur (.pin .port6 2 (.driven false)) { at100 with p6 := highPort, iocf := 0x08 }).rf = 0x08 ∧
    (occur (.pin .port9 2 (.driven false)) { asleep with ra := 4, iocf := 0x7F }).run = .running := by decide
theorem witness_TccTicks :
    ({ at100 with cont := 0x25, pre := 63 }.pre.toNat + 1) % 2 ^ (0x25 % 8 + 1) = 0 ∧
    ({ at100 with cont := 0x25, pre := 62 }.pre.toNat + 1) % 2 ^ (0x25 % 8 + 1) ≠ 0 ∧
    { at100 with cont := 0x25 }.cont.getLsbD 3 = false ∧ at100.cont.getLsbD 3 = true ∧ at100.cont.getLsbD 5 = true ∧
    (occur .tccTick { at100 with cont := 0x25, pre := 63, tcc := 0xFF, iocf := 1 }).rf = 1 ∧
    occur .tccTick { asleep with cont := 0x05 } = { asleep with cont := 0x05 } := by decide
theorem witness_TccWakesTheIdleCpu :
    asleep.resetLow = false ∧ asleep.run = .idle ∧ asleep.cont.getLsbD 5 = true ∧ asleep.cont.getLsbD 3 = true ∧
    (255 + 1) % 2 ^ (0x27 % 8 + 1) = 0 ∧
    (occur .tccTick { asleep with cont := 0x27, pre := 0xFF, tcc := 0xFF, iocf := 1 }).run = .running ∧
    (occur .tccTick { asleep with tcc := 0xFF, iocf := 0x7E }).run = .idle := by decide
theorem witness_CounterTicks :
    (occur .counter1Tick { at100 with ioca := 7, ra := 0x40, cpre1 := 7, cnt1 := 0xFF, iocf := 0x20 }).rf = 0x20 ∧
    (occur .counter1Tick { at100 with ioca := 3, cpre1 := 6 }).cnt1 = 0 ∧ (occur .counter1Tick at100).cnt1 = 1 ∧
    (occur .counter2Tick { at100 with ioca := 8, ra := 0x40 }).cnt2 = 1 ∧
    occur .counter2Tick { at100 with ioca := 8 } = { at100 with ioca := 8 } := by decide
theorem witness_WatchdogTimeOut :
    { at100 with ra := 8 }.ra.getLsbD 3 = true ∧ at100.cfg.wdtMinSteps ≤ at100.wdt ∧
    (let s := { at100 with ra := 8, wdt := 4, cfg := { Config.defaults with wdtMinSteps := 5 } };
      s.wdt < s.cfg.wdtMinSteps ∧ occur .watchdog s = s) ∧
    { asleep with ra := 8 }.run = .idle := by decide
theorem witness_Port6EdgesRaiseFlags :
    highPort.dir.getLsbD 7 = true ∧ highPort.driven.getLsbD 7 = true ∧ highPort.ext.getLsbD 7 = true ∧
    ([(0, 2), (1, 4), (2, 8), (3, 8), (4, 16), (7, 16)] : List (Fin 8 × BitVec 7)).all (fun p =>
      (occur (.pin .port6 p.1 (.driven false)) { at100 with p6 := highPort, iocf := 0x7F }).rf = p.2) = true ∧
    gives (step { fetching 0x0046 with p6 := { highPort with dir := 0x7F, latch := 0x80 }, iocf := 0x10 })
      (fun t => t.rf = 0x10 ∧ t.p6.latch = 0) = true ∧
    gives (step { fetching 0x0006 with p6 := highPort, iocf := 0x02 }) (fun t => t.rf = 0x02 ∧ t.p6.dir = 0) = true ∧
    level6 { fetching 0x0006 with p6 := highPort } 0 = true ∧
    (let s := { at100 with p6 := { highPort with driven := 0, ext := 0 }, iocb := 1, iocf := 0x7F };
      level6 s 0 = true ∧ level6 s 1 = false ∧ (occur (.pin .port6 0 (.driven false)) s).rf = 0x02) := by decide
theorem witness_Port6EdgesRaiseFlags_executes (p : Port) :
    executes { fetching 0x0046 with p6 := p } ∧ executes { fetching 0x0006 with p6 := p } ∧
    (fetching 0x0046).pc ≠ 0x7FFF#15 ∧ (fetching 0x0046).a.getLsbD 7 = false ∧
    (fetching 0x0046).mem.romRead 0 = some 0x0046#13 ∧ decode 0x0046#13 = .instr (.movRA 6) ∧
    (fetching 0x0006).mem.romRead 0 = some 0x0006#13 ∧ decode 0x0006#13 = .instr (.iow 6) :=
  ⟨⟨rfl, rfl, .inl rfl⟩, ⟨rfl, rfl, .inl rfl⟩, by decide, by decide, by decide, by decide, by decide, by decide⟩
theorem witness_Port9EdgesWake :
    asleep.run = .idle ∧ asleep.p9.dir.getLsbD 2 = true ∧ asleep.p9.driven.getLsbD 2 = true ∧ asleep.p9.ext.getLsbD 2 = true ∧
    (occur (.pin .port9 2 (.driven false)) { asleep with ra := 4 }).run = .running ∧
    (occur (.pin .port9 3 (.driven false)) { asleep with ra := 0x7F }).run = .idle := by decide
theorem witness_ResetEventSetsTheList :
    asleep.run = .idle ∧ (resetEvent .pin asleep).run = .running ∧ (resetEvent .watchdog { at100 with ra := 8 }).ra = 0 ∧
    (resetEvent .supply { at100 with ioce := 3 }).ioce = 0 := by decide
theorem witness_ResetCausesFromOutside :
    ResetSource.powerOn = at100.cfg.resetSource ∧ ResetSource.voltageDetector ≠ at100.cfg.resetSource ∧
    at100.resetLow = false ∧ { at100 with resetLow := true }.resetLow = true := by decide
theorem witness_LowPowerDetector : gives (writeCell .ra 0xFF at100) (fun t => t.lpd = false ∧ t.ra = 0x7F) = true := by decide

/-- The CPU and every clocked event in turn, for ever. -/
def round : Course := fun n =>
  match n % 5 with
  | 0 => .cpu
  | 1 => .event .tccTick
  | 2 => .event .counter1Tick
  | 3 => .event .counter2Tick
  | _ => .event .watchdog

theorem round_fair (s : State) : fair round s := by
  refine ⟨fun n => ⟨5 * n + 1, by omega, .inl ?_⟩, fun n => ⟨5 * n + 2, by omega, .inl ?_⟩,
    fun n => ⟨5 * n + 3, by omega, .inl ?_⟩, fun n => ⟨5 * n + 4, by omega, .inl ?_⟩, fun n => ⟨5 * n, by omega, ?_⟩⟩ <;>
  simp [round]

theorem witness_FairIdleCpuRunsOn :
    fair round { asleep with tcc := 0xFF, iocf := 1 } ∧ asleep.run = .idle ∧ asleep.resetLow = false ∧
    (asleep.cont.getLsbD 5 = true ∧ { asleep with iocf := 1 }.iocf.getLsbD 0 = true) ∧
    { asleep with ra := 8 }.ra.getLsbD 3 = true ∧
    gives (courseRun round { asleep with tcc := 0xFF, iocf := 1 } 2) (fun t => t.run = .running) = true :=
  ⟨round_fair _, rfl, rfl, by decide, by decide, by decide⟩

end Sys2Proof.Tests
end

