-- ==== Sys2Proof/Proofs/Scope.lean ====
section
/-! PROOFS. The CPU's turn as the statements speak of it (`cpuMoves`, `executes`), and the step that runs the decoded
instruction (spec/00_scope.md rules R11, R12). -/

namespace Sys2Proof.Proofs

open Sys2Proof.Machine Sys2Proof.Claims

/-! ### The CPU's turn -/

/-- Taking the turn off the agenda changes the agenda only (R11). -/
theorem eq_setAgenda_of_cpuMoves {s s' : State} (h : cpuMoves s s') : s' = s.setAgenda s'.agenda := by
  obtain ⟨-, rfl⟩ | ⟨rest, -, rfl⟩ := h
  · rfl
  · rfl

theorem step_of_cpuMoves {s s' : State} (h : cpuMoves s s') : step s = cpuTurn s' := by
  obtain ⟨hnone, rfl⟩ | ⟨rest, hcpu, rfl⟩ := h
  · simp [step, takeTurn, hnone]
  · simp only [step, takeTurn, hcpu]
    rfl

theorem executes_setAgenda {s : State} {l : List Turn} : executes (s.setAgenda l) ↔ executes s := Iff.rfl

theorem executes_of_cpuMoves {s s' : State} (h : cpuMoves s s') (he : executes s) : executes s' := by
  rw [eq_setAgenda_of_cpuMoves h]
  exact executes_setAgenda.2 he

/-- No request is taken: none is enabled, none is pending, or the hold keeps it off (R330, R331, R358). -/
theorem takesInterrupt_of_executes {s : State} (h : executes s) : s.takesInterrupt = false := by
  obtain ⟨-, -, hie | hrf | hhold⟩ := h
  · simp [State.takesInterrupt, State.interruptRequested, hie]
  · simp [State.takesInterrupt, State.interruptRequested, hrf]
  · simp [State.takesInterrupt, hhold]

theorem cpuTurn_of_executes {s : State} (h : executes s) : cpuTurn s = runNext s := by
  have hnot := takesInterrupt_of_executes h
  obtain ⟨hlow, hrun, -⟩ := h
  simp [cpuTurn, hlow, hrun, hnot]

/-- The step of a CPU that executes fetches, decodes and runs (R12). -/
theorem step_of_executes {s s' : State} (hm : cpuMoves s s') (he : executes s) : step s = runNext s' :=
  (step_of_cpuMoves hm).trans (cpuTurn_of_executes (executes_of_cpuMoves hm he))

/-! ### The decoded instruction -/

theorem romRead_of_cpuMoves {s s' : State} (h : cpuMoves s s') :
    s'.mem.romRead s'.pc.toNat = s.mem.romRead s.pc.toNat := by
  rw [eq_setAgenda_of_cpuMoves h]
  rfl

/-- What a CPU step begins with, its count read before the turn is taken (R358, R368). -/
theorem beginStep_of_cpuMoves {s s' : State} (h : cpuMoves s s') :
    s'.beginStep = { s' with wdt := s.wdt + 1, irqHold := false } := by
  have hwdt : s'.wdt = s.wdt := by rw [eq_setAgenda_of_cpuMoves h, State.setAgenda_wdt]
  rw [← hwdt]
  rfl

theorem runNext_of_decode {s : State} {w : Word} {i : Instr} (hw : s.mem.romRead s.pc.toNat = some w)
    (hi : decode w = .instr i) : runNext s = runInstr i s := by
  simp [runNext, fetch_eq_next.2 hw, hi]

/-- The step is the decoded instruction's run, by whatever `exec` answers (R12, R24). -/
theorem step_of_decode {s s' : State} {w : Word} {i : Instr} (hm : cpuMoves s s') (he : executes s)
    (hw : s.mem.romRead s.pc.toNat = some w) (hi : decode w = .instr i) :
    step s = andThen (exec i { s' with wdt := s.wdt + 1, irqHold := false }) fun t => .next (recordEdges s' t) := by
  calc step s = runNext s' := step_of_executes hm he
    _ = runInstr i s' := runNext_of_decode ((romRead_of_cpuMoves hm).trans hw) hi
    _ = _ := by rw [runInstr, beginStep_of_cpuMoves hm]

/-- Settles O5: the step is `exec` followed by the recording of edges, so each of the three answers passes through. -/
theorem stepRunsDecodedInstruction : Obligations.StepRunsDecodedInstruction := by
  intro s s' w i hm he hw hi
  have hstep := step_of_decode hm he hw hi
  refine ⟨fun t hx => ?next, fun f hx => ?fault, fun f hx => ?refused⟩
  case next => rw [hstep, hx, andThen_next]
  case fault => rw [hstep, hx, andThen_fault]
  case refused => rw [hstep, hx, andThen_refused]

end Sys2Proof.Proofs
end

/-! PROOFS. The machine's state (spec/10_state.md): what a completed instruction has done (`Effect`, `Frame`), what an
event can do (`Occurs`), what a read and a write of each cell do, where the register instructions complete and where
they are refused, and from these the invariant, the flags, the stack, the program counter and the resets. -/

namespace Sys2Proof.Proofs

open Sys2Proof.Machine Sys2Proof.Claims

/-! ## Bits -/

theorem putBit_getLsbD {i j : Nat} (b : Bool) (v : Byte) (hj : j < 8) :
    (putBit i b v).getLsbD j = if i = j then b else v.getLsbD j := by
  have hshift : (1#8 <<< i).getLsbD j = decide (i = j) := by
    simp only [BitVec.getLsbD_shiftLeft, BitVec.getLsbD_one]
    grind
  cases b with
  | false =>
    simp only [putBit, Bool.false_eq_true, if_false, BitVec.getLsbD_and, BitVec.getLsbD_not, hshift, hj]
    by_cases h : i = j <;> simp [h]
  | true =>
    simp only [putBit, if_true, BitVec.getLsbD_or, hshift]
    by_cases h : i = j <;> simp [h]

theorem putBit?_getLsbD_of_ne {i j : Nat} (h : i ≠ j) (b : Option Bool) (v : Byte) (hj : j < 8) :
    (putBit? i b v).getLsbD j = v.getLsbD j := by
  cases b with
  | none => rfl
  | some x => simp [putBit?, putBit_getLsbD x v hj, h]

/-- The flags of a result are bits 0 to 2 of R3 (R31, R32). -/
theorem status_getLsbD (x : Alu) (r3 : Byte) {j : Nat} (h2 : 2 < j) (hj : j < 8) :
    (x.status r3).getLsbD j = r3.getLsbD j := by
  simp only [Alu.status]
  rw [putBit?_getLsbD_of_ne (by omega) _ _ hj, putBit?_getLsbD_of_ne (by omega) _ _ hj,
    putBit?_getLsbD_of_ne (by omega) _ _ hj]

theorem statusTP_getLsbD (t p : Bool) (r3 : Byte) {j : Nat} (hj : j < 8) :
    (statusTP t p r3).getLsbD j = if j = 4 then t else if j = 3 then p else r3.getLsbD j := by
  simp only [statusTP, putBit_getLsbD _ _ hj, eq_comm]

theorem mixBits_getLsbD (known opened free : Byte) {j : Nat} (hj : j < 8) :
    (mixBits known opened free).getLsbD j = if opened.getLsbD j then free.getLsbD j else known.getLsbD j := by
  simp only [mixBits, BitVec.getLsbD_or, BitVec.getLsbD_and, BitVec.getLsbD_not, hj]
  cases opened.getLsbD j <;> simp

/-! ## Reads and writes of a cell -/

theorem resolve_of_names {r : Designator} {s : State} {c : Cell} (h : names r s c) : resolve r s = .next c :=
  resolve_eq_next.2 h

/-- Two cells a designator names are one (R103). -/
theorem names_unique {r : Designator} {s : State} {c d : Cell} (hc : names r s c) (hd : names r s d) : c = d :=
  Option.some.inj (hc.symm.trans hd)

/-- The state after a read differs in the count of draws only (R115). -/
theorem readCell_frame {care : Byte} {c : Cell} {s u : State} {v : Byte} (h : readCell care c s = .next (v, u)) :
    u = { s with draws := u.draws } := by
  obtain rfl | rfl := readCell_state h
  · rfl
  · rfl

theorem readCell_of_peekCell (care : Byte) {c : Cell} {s : State} {k o : Byte} (h : peekCell c s = .next (k, o)) :
    readCell care c s =
      if o &&& care = 0#8 then .next (k, s) else .next (mixBits k o (s.freeByte 0), s.drew 1) := by
  rw [readCell, h, andThen_next]

/-- A cell with no open bit reads as it stands, and the read changes nothing. -/
theorem readCell_of_peekCell_closed (care : Byte) {c : Cell} {s : State} {k : Byte}
    (h : peekCell c s = .next (k, 0#8)) : readCell care c s = .next (k, s) := by
  rw [readCell_of_peekCell care h, BitVec.zero_and, if_pos rfl]

theorem peekCell_of_present {c : Cell} {s : State} (h : present c s) : ∃ k o, peekCell c s = .next (k, o) := by
  cases c with
  | r12 => exact ⟨_, _, if_pos (h rfl)⟩
  | _ => exact ⟨_, _, rfl⟩

/-- A read of a cell that is there completes. -/
theorem readCell_of_present (care : Byte) {c : Cell} {s : State} (h : present c s) :
    ∃ v u, readCell care c s = .next (v, u) ∧ u = { s with draws := u.draws } := by
  obtain ⟨k, o, hk⟩ := peekCell_of_present h
  have hread := readCell_of_peekCell care hk
  by_cases ho : o &&& care = 0#8
  · rw [if_pos ho] at hread
    exact ⟨_, _, hread, readCell_frame hread⟩
  · rw [if_neg ho] at hread
    exact ⟨_, _, hread, readCell_frame hread⟩

/-- Each bit of a read that is not open is the cell's own. -/
theorem readCell_of_peekCell_bits (care : Byte) {c : Cell} {s : State} {k o : Byte}
    (h : peekCell c s = .next (k, o)) :
    ∃ v u, readCell care c s = .next (v, u) ∧ u = { s with draws := u.draws } ∧
      ∀ j, j < 8 → o.getLsbD j = false → v.getLsbD j = k.getLsbD j := by
  have hread := readCell_of_peekCell care h
  by_cases ho : o &&& care = 0#8
  · rw [if_pos ho] at hread
    exact ⟨_, _, hread, readCell_frame hread, fun _ _ _ => rfl⟩
  · rw [if_neg ho] at hread
    exact ⟨_, _, hread, readCell_frame hread, fun j hj hopen => by simp [mixBits_getLsbD _ _ _ hj, hopen]⟩

theorem present_of_readCell {care : Byte} {c : Cell} {s : State} {p : Byte × State}
    (h : readCell care c s = .next p) : present c s := by
  rintro rfl
  obtain ⟨k, o, hk, -⟩ := readCell_eq_next.1 h
  by_contra habsent
  simp [peekCell, habsent] at hk

/-- A read takes no cell away. -/
theorem present_after_readCell {care : Byte} {c : Cell} {s u : State} {v : Byte} (h : present c s)
    (hu : readCell care c s = .next (v, u)) : present c u := by
  rw [readCell_frame hu]
  exact h

/-- A write of a cell that is there completes, but for R2 and RE (R26, R50). -/
theorem writeCell_of_present {c : Cell} {s : State} (v : Byte) (hpcl : c ≠ .pcl) (hre : c ≠ .re)
    (h : present c s) : ∃ w, writeCell c v s = .next w := by
  cases c with
  | pcl => exact absurd rfl hpcl
  | re => exact absurd rfl hre
  | r12 => exact ⟨_, if_pos (h rfl)⟩
  | _ => exact ⟨_, rfl⟩

/-! ## What the operations keep -/

/-- What no operation on data changes: everything that says where the CPU goes next and whether it runs; the unused
bit of R3, no flag gained, and the memory's canonical form. -/
structure Keeps (s t : State) : Prop where
  pc : t.pc = s.pc
  stack : t.stack = s.stack
  ie : t.ie = s.ie
  run : t.run = s.run
  resetLow : t.resetLow = s.resetLow
  unusedStatus : t.r3.getLsbD 5 = s.r3.getLsbD 5
  flags : ∀ k, t.rf.getLsbD k = true → s.rf.getLsbD k = true
  wf : s.mem.wf → t.mem.wf

theorem Keeps.refl (s : State) : Keeps s s := ⟨rfl, rfl, rfl, rfl, rfl, rfl, fun _ => id, id⟩

theorem Keeps.trans {s t u : State} (h : Keeps s t) (k : Keeps t u) : Keeps s u where
  pc := k.pc.trans h.pc
  stack := k.stack.trans h.stack
  ie := k.ie.trans h.ie
  run := k.run.trans h.run
  resetLow := k.resetLow.trans h.resetLow
  unusedStatus := k.unusedStatus.trans h.unusedStatus
  flags b hb := h.flags b (k.flags b hb)
  wf hm := k.wf (h.wf hm)

theorem Keeps.setA {s t : State} (h : Keeps s t) (v : Byte) : Keeps s (t.setA v) :=
  h.trans ⟨rfl, rfl, rfl, rfl, rfl, rfl, fun _ => id, id⟩

theorem Keeps.drew {s t : State} (h : Keeps s t) (n : Nat) : Keeps s (t.drew n) :=
  h.trans ⟨rfl, rfl, rfl, rfl, rfl, rfl, fun _ => id, id⟩

theorem Keeps.setStatus {s t : State} (h : Keeps s t) {v : Byte} (hv : v.getLsbD 5 = t.r3.getLsbD 5) :
    Keeps s (t.setStatus v) :=
  h.trans ⟨rfl, rfl, rfl, rfl, rfl, hv, fun _ => id, id⟩

/-- Writing the flags of a result keeps the unused bit of R3. -/
theorem Keeps.setFlags {s t : State} (h : Keeps s t) (x : Alu) : Keeps s (t.setStatus (x.status t.r3)) :=
  h.setStatus (status_getLsbD x t.r3 (by omega) (by omega))

theorem Keeps.readCell {s t u : State} (h : Keeps s t) {care v : Byte} {c : Cell}
    (hu : Machine.readCell care c t = .next (v, u)) : Keeps s u := by
  obtain rfl | rfl := readCell_state hu
  · exact h
  · exact h.drew 1

/-- A store to R3 writes bits 7, 6, 2, 1, 0 and perhaps T and P, never bit 5 (R37). -/
theorem statusMask_five (s : State) : s.statusMask.getLsbD 5 = false := by
  unfold State.statusMask
  split <;> decide

theorem writeCell_unusedStatus {c : Cell} {v : Byte} {s t : State} (h : writeCell c v s = .next t) :
    t.r3.getLsbD 5 = s.r3.getLsbD 5 := by
  by_cases hc : c = .status
  · subst hc
    obtain rfl : s.setStatus (mixBits s.r3 s.statusMask v) = t := Host.Outcome.next.inj h
    simp only [State.setStatus_r3, mixBits_getLsbD _ _ _ (show 5 < 8 by omega), statusMask_five]
    rfl
  · rw [writeCell_status_ne hc h]

/-- A write clears flags at most, and only a write of RF (R53). -/
theorem writeCell_flags {c : Cell} {v : Byte} {s t : State} (h : writeCell c v s = .next t) :
    t.rf = if c = .rf then s.rf &&& v.setWidth 7 else s.rf := by
  cases c with
  | pcl => cases h
  | re => cases h
  | r12 =>
    simp only [writeCell] at h
    split at h <;> cases h
    rfl
  | port p => cases p <;> (cases h; rfl)
  | _ => cases h; rfl

theorem Keeps.writeCell {s t w : State} (h : Keeps s t) {r : Designator} {c : Cell} {v : Byte}
    (hc : names r s c) (hw : Machine.writeCell c v t = .next w) : Keeps s w := by
  obtain ⟨-, hpc, hstack, hie, hrun, hlow, -⟩ := writeCell_keeps hw
  refine h.trans ⟨hpc, hstack, hie, hrun, hlow, writeCell_unusedStatus hw, fun k hk => ?_, fun hm => ?_⟩
  · rw [writeCell_flags hw] at hk
    split at hk
    · rw [BitVec.getLsbD_and, Bool.and_eq_true] at hk
      exact hk.1
    · exact hk
  · exact writeCell_wf hm (fun k hk => cellOf_gpr_lt (hk ▸ hc)) hw

theorem Keeps.iocWrite {s w : State} {r : IocNumber} {v : Byte} (hw : Machine.iocWrite r v s = .next w) :
    Keeps s w := by
  rw [iocWrite_keeps hw]
  exact ⟨rfl, rfl, rfl, rfl, rfl, rfl, fun _ => id, id⟩

theorem Keeps.writeCont (s : State) (v : Byte) : Keeps s (s.writeCont v) := by
  unfold State.writeCont
  split <;> exact ⟨rfl, rfl, rfl, rfl, rfl, rfl, fun _ => id, id⟩

theorem Keeps.setPage (s : State) (v : BitVec 5) : Keeps s (s.setPage v) :=
  ⟨rfl, rfl, rfl, rfl, rfl, rfl, fun _ => id, id⟩

theorem Keeps.clearWdt (s : State) : Keeps s s.clearWdt := ⟨rfl, rfl, rfl, rfl, rfl, rfl, fun _ => id, id⟩

/-- WDTC and SLEP put T and P beside the unused bit (R185, R186). -/
theorem Keeps.clearWdt_setTP (s : State) (t p : Bool) : Keeps s (s.clearWdt.setStatus (statusTP t p s.r3)) :=
  (Keeps.clearWdt s).setStatus (by simp only [statusTP_getLsbD t p s.r3 (show 5 < 8 by omega)]; rfl)

/-! ## What an instruction does where it completes -/

/-- An operation on data, and then the next word (R24). -/
def Sequential (s t : State) : Prop := s.pc ≠ 0x7FFF#15 ∧ ∃ w, Keeps s w ∧ t = w.setPc (s.pc + 1#15)

/-- An operation on data, and then the next word or the one after it (R293). -/
def MaySkip (s t : State) : Prop :=
  s.pc ≠ 0x7FFF#15 ∧ ∃ w, Keeps s w ∧ (t = w.setPc (s.pc + 1#15) ∨ t = w.setPc (s.pc + 2#15))

theorem Keeps.advance {s w t : State} (h : Keeps s w) (ht : Machine.advance w = .next t) : Sequential s t := by
  obtain ⟨hend, rfl⟩ := advance_eq_next.1 ht
  rw [h.pc] at hend
  exact ⟨hend, w, h, by rw [State.nextPc, h.pc]; rfl⟩

theorem Keeps.skipIf {s w t : State} {c : Bool} (h : Keeps s w) (ht : Machine.skipIf c w = .next t) :
    MaySkip s t := by
  obtain ⟨-, hlt, rfl⟩ | ⟨-, hend, rfl⟩ := skipIf_eq_next.1 ht
  · rw [h.pc] at hlt
    exact ⟨fun hend => by simp [hend] at hlt, w, h, .inr (by rw [h.pc]; rfl)⟩
  · rw [h.pc] at hend
    exact ⟨hend, w, h, .inl (by rw [State.nextPc, h.pc]; rfl)⟩

theorem literalToA_sequential {x : Alu} {s t : State} (h : literalToA x s = .next t) : Sequential s t :=
  (((Keeps.refl s).setFlags x).setA x.val).advance h

theorem resultToA_sequential {r : Designator} {f : Byte → Alu} {s t : State} (h : resultToA r f s = .next t) :
    Sequential s t := by
  obtain ⟨c, v, u, -, hu, hend, rfl⟩ := resultToA_eq_next.1 h
  exact ((((Keeps.refl s).readCell hu).setFlags (f v)).setA (f v).val).advance (advance_eq_next.2 ⟨hend, rfl⟩)

theorem resultToCell_sequential {r : Designator} {c : Cell} {f : Byte → Alu} {s t : State} (hc : names r s c)
    (h : resultToCell c f s = .next t) : Sequential s t := by
  obtain ⟨-, v, u, w, hu, hw, hend, rfl⟩ := resultToCell_eq_next.1 h
  exact ((((Keeps.refl s).readCell hu).writeCell hc hw).setFlags (f v)).advance (advance_eq_next.2 ⟨hend, rfl⟩)

theorem resultToR_sequential {r : Designator} {f : Byte → Alu} {s t : State} (h : resultToR r f s = .next t) :
    Sequential s t := by
  obtain ⟨c, hc, hcell⟩ := resultToR_eq_next.1 h
  exact resultToCell_sequential hc hcell

theorem modifyR_sequential {r : Designator} {care : Cell → Byte} {f : Byte → Byte} {s t : State}
    (h : modifyR r care f s = .next t) : Sequential s t := by
  obtain ⟨c, v, u, w, hc, hu, hw, hend, rfl⟩ := modifyR_eq_next.1 h
  exact (((Keeps.refl s).readCell hu).writeCell hc hw).advance (advance_eq_next.2 ⟨hend, rfl⟩)

theorem countToA_maySkip {r : Designator} {f : Byte → Byte} {s t : State} (h : countToA r f s = .next t) :
    MaySkip s t := by
  obtain ⟨c, v, u, -, hu, ht⟩ := countToA_eq_next.1 h
  exact (((Keeps.refl s).readCell hu).setA (f v)).skipIf ht

theorem countToR_maySkip {r : Designator} {f : Byte → Byte} {s t : State} (h : countToR r f s = .next t) :
    MaySkip s t := by
  obtain ⟨c, v, u, w, hc, hu, hw, ht⟩ := countToR_eq_next.1 h
  exact (((Keeps.refl s).readCell hu).writeCell hc hw).skipIf ht

theorem skipOnBit_maySkip {r : Designator} {b : BitNumber} {wanted : Bool} {s t : State}
    (h : skipOnBit r b wanted s = .next t) : MaySkip s t := by
  obtain ⟨c, v, u, -, hu, ht⟩ := skipOnBit_eq_next.1 h
  exact ((Keeps.refl s).readCell hu).skipIf ht

/-- MOV R,A: a jump where the operand is R2, else a store (R200, R298). -/
theorem execMovRA_eq_next {r : Designator} {s t : State} (h : execMovRA r s = .next t) :
    (names r s .pcl ∧ t = s.setPc (s.computedTarget s.a)) ∨ (¬ names r s .pcl ∧ Sequential s t) := by
  obtain ⟨c, hc, h⟩ := andThen_eq_next.1 h
  have hc := resolve_eq_next.1 hc
  by_cases hpcl : c = .pcl
  · subst hpcl
    exact .inl ⟨hc, (Host.Outcome.next.inj h).symm⟩
  · rw [if_neg hpcl] at h
    obtain ⟨w, hw, ht⟩ := andThen_eq_next.1 h
    exact .inr ⟨fun hn => hpcl (names_unique hc hn), ((Keeps.refl s).writeCell hc hw).advance ht⟩

/-- R2 with A added, its flags, and the jump to where the sum points: ADD R2,A and TBL (R285, R299). -/
def addJump (s : State) (target : Byte → Addr) : State :=
  (s.setStatus ((addAlu s.pcl s.a).status s.r3)).setPc (target (addAlu s.pcl s.a).val)

/-- ADD R,A: a computed jump where the operand is R2, else an addition to the register (R228, R299). -/
theorem execAddRA_eq_next {r : Designator} {s t : State} (h : execAddRA r s = .next t) :
    (names r s .pcl ∧ t = addJump s s.computedTarget) ∨ (¬ names r s .pcl ∧ Sequential s t) := by
  obtain ⟨c, hc, h⟩ := andThen_eq_next.1 h
  have hc := resolve_eq_next.1 hc
  by_cases hpcl : c = .pcl
  · subst hpcl
    exact .inl ⟨hc, (Host.Outcome.next.inj h).symm⟩
  · rw [if_neg hpcl] at h
    exact .inr ⟨fun hn => hpcl (names_unique hc hn), resultToCell_sequential hc h⟩

theorem execClrR_sequential {r : Designator} {s t : State} (h : execClrR r s = .next t) : Sequential s t := by
  obtain ⟨c, hc, h⟩ := andThen_eq_next.1 h
  split at h
  · cases h
  · obtain ⟨w, hw, ht⟩ := andThen_eq_next.1 h
    exact (((Keeps.refl s).writeCell (resolve_eq_next.1 hc) hw).setFlags _).advance ht

/-- CALL and INT: the next address is pushed, and the CPU goes to `target` (R281, R189). -/
theorem pushNext_setPc_eq_next {s t : State} {target : Addr}
    (h : andThen (pushNext s) (fun u => .next (u.setPc target)) = Host.Outcome.next t) :
    s.pc ≠ 0x7FFF#15 ∧ s.stack.length < 8 ∧ t = (s.setStack (s.nextPc :: s.stack)).setPc target := by
  obtain ⟨u, hu, ht⟩ := andThen_eq_next.1 h
  obtain ⟨hend, hroom, rfl⟩ := pushNext_eq_next.1 hu
  exact ⟨hend, hroom, (Host.Outcome.next.inj ht).symm⟩

/-- What an instruction has done where it completes: the control transfers, the enable's two and SLEP in full, every
other one as an operation on data before the next word. -/
def Effect (i : Instr) (s t : State) : Prop :=
  match i with
  | .jmp k => t = s.setPc (s.pageTarget k)
  | .call k => s.pc ≠ 0x7FFF#15 ∧ s.stack.length < 8 ∧
      t = (s.setStack (s.nextPc :: s.stack)).setPc (s.pageTarget k)
  | .int => s.pc ≠ 0x7FFF#15 ∧ s.stack.length < 8 ∧ t = (s.setStack (s.nextPc :: s.stack)).setPc 0x0001#15
  | .ret => ∃ v rest, s.stack = v :: rest ∧ t = (s.setStack rest).setPc v
  | .retl k => ∃ v rest, s.stack = v :: rest ∧ t = ((s.setStack rest).setPc v).setA k
  | .reti => ∃ v rest, s.stack = v :: rest ∧ t = ((s.setStack rest).setPc v).setIe true
  | .tbl => t = addJump s s.tableTarget
  | .eni => s.pc ≠ 0x7FFF#15 ∧ t = (s.setIe true).setPc s.nextPc
  | .disi => s.pc ≠ 0x7FFF#15 ∧ t = (s.setIe false).setPc s.nextPc
  | .slep => s.pc ≠ 0x7FFF#15 ∧
      t = ((s.clearWdt.setStatus (statusTP true false s.r3)).setPc s.nextPc).setRun .idle
  | .movRA r => (names r s .pcl ∧ t = s.setPc (s.computedTarget s.a)) ∨ (¬ names r s .pcl ∧ Sequential s t)
  | .addRA r => (names r s .pcl ∧ t = addJump s s.computedTarget) ∨ (¬ names r s .pcl ∧ Sequential s t)
  | .jbc _ _ | .jbs _ _ | .djzaR _ | .djzR _ | .jzaR _ | .jzR _ => MaySkip s t
  | _ => Sequential s t

theorem exec_effect {i : Instr} {s t : State} (h : exec i s = .next t) : Effect i s t := by
  cases i with
  | jmp k => exact (Host.Outcome.next.inj h).symm
  | call k =>
    simp only [exec, execCall] at h
    exact pushNext_setPc_eq_next h
  | int => exact pushNext_setPc_eq_next h
  | ret => exact returnToTop_eq_next.1 h
  | retl k =>
    obtain ⟨u, hu, ht⟩ := andThen_eq_next.1 h
    obtain ⟨v, rest, hs, rfl⟩ := returnToTop_eq_next.1 hu
    exact ⟨v, rest, hs, (Host.Outcome.next.inj ht).symm⟩
  | reti =>
    obtain ⟨u, hu, ht⟩ := andThen_eq_next.1 h
    obtain ⟨v, rest, hs, rfl⟩ := returnToTop_eq_next.1 hu
    exact ⟨v, rest, hs, (Host.Outcome.next.inj ht).symm⟩
  | tbl => exact (Host.Outcome.next.inj h).symm
  | eni => exact advance_eq_next.1 h
  | disi => exact advance_eq_next.1 h
  | slep =>
    obtain ⟨u, hu, ht⟩ := andThen_eq_next.1 h
    obtain ⟨hend, rfl⟩ := advance_eq_next.1 hu
    exact ⟨hend, (Host.Outcome.next.inj ht).symm⟩
  | movRA r => exact execMovRA_eq_next h
  | addRA r => exact execAddRA_eq_next h
  | jbc r b | jbs r b => exact skipOnBit_maySkip h
  | djzaR r | jzaR r =>
    simp only [exec] at h
    exact countToA_maySkip h
  | djzR r | jzR r =>
    simp only [exec] at h
    exact countToR_maySkip h
  | nop => exact (Keeps.refl s).advance h
  | contw => exact (Keeps.writeCont s s.a).advance h
  | contr => exact (((Keeps.refl s).setA _).drew 1).advance h
  | wdtc => exact (Keeps.clearWdt_setTP s true true).advance h
  | page k => exact (Keeps.setPage s _).advance h
  | iow r =>
    obtain ⟨w, hw, ht⟩ := andThen_eq_next.1 h
    exact (Keeps.iocWrite hw).advance ht
  | ior r =>
    obtain ⟨v, -, ht⟩ := andThen_eq_next.1 h
    exact ((Keeps.refl s).setA v).advance ht
  | clrR r => exact execClrR_sequential h
  | swapR r | bc r b | bs r b => exact modifyR_sequential h
  | daa | clra | movAK k | orAK k | andAK k | xorAK k | subAK k | addAK k => exact literalToA_sequential h
  | movAR r | orAR r | andAR r | xorAR r | addAR r | subAR r | decaR r | incaR r | comaR r | swapaR r | rrcaR r
  | rlcaR r =>
    simp only [exec] at h
    exact resultToA_sequential h
  | movRR r | orRA r | andRA r | xorRA r | subRA r | decR r | incR r | comR r | rrcR r | rlcR r =>
    simp only [exec] at h
    exact resultToR_sequential h

/-! ## Rules over all instructions -/

/-- MOV R2,A and ADD R2,A go into the first 256 words of the page (R298, R299). -/
theorem computedTarget_page (s : State) (v : Byte) : (s.computedTarget v).extractLsb' 8 7 = s.r5 ++ 0#2 := by
  simp only [State.computedTarget]
  ext i hi
  simp only [BitVec.getElem_extractLsb', BitVec.getLsbD_append]
  grind

/-- TBL stays in its block of 256 words (R285). -/
theorem tableTarget_block (s : State) (v : Byte) : (s.tableTarget v).extractLsb' 8 7 = s.pc.extractLsb' 8 7 := by
  simp only [State.tableTarget]
  ext i hi
  simp only [BitVec.getElem_extractLsb', BitVec.getLsbD_append, BitVec.getLsbD_extractLsb']
  simp [hi]

/-- Settles O34: the transfers by what they do in full, every other instruction by its flow to the next word. -/
theorem programCounterOfEveryInstruction : Obligations.ProgramCounterOfEveryInstruction := by
  intro i s t hx
  have h := exec_effect hx
  cases i with
  | jmp k =>
    obtain rfl := h
    rfl
  | call k =>
    obtain ⟨-, -, rfl⟩ := h
    rfl
  | int =>
    obtain ⟨-, -, rfl⟩ := h
    rfl
  | ret | retl k | reti =>
    obtain ⟨v, rest, hstack, rfl⟩ := h
    rw [hstack]
    rfl
  | tbl =>
    obtain rfl := h
    exact tableTarget_block s _
  | eni | disi | slep =>
    obtain ⟨-, rfl⟩ := h
    rfl
  | movRA r | addRA r =>
    obtain ⟨hpcl, rfl⟩ | ⟨hpcl, -, w, -, rfl⟩ := h
    · exact .inl ⟨hpcl, computedTarget_page s _⟩
    · exact .inr ⟨hpcl, rfl⟩
  | jbc r b | jbs r b | djzaR r | djzR r | jzaR r | jzR r =>
    obtain ⟨-, w, -, rfl | rfl⟩ := h
    · exact .inl rfl
    · exact .inr rfl
  | _ =>
    obtain ⟨-, w, -, rfl⟩ := h
    rfl

/-- The stack after an instruction that completes (R294). -/
def stackAfter (i : Instr) (s : State) : List Addr :=
  match i with
  | .call _ | .int => s.nextPc :: s.stack
  | .ret | .retl _ | .reti => s.stack.tail
  | _ => s.stack

/-- The interrupt enable after an instruction that completes (R76). -/
def enableAfter (i : Instr) (s : State) : Bool :=
  match i with
  | .eni | .reti => true
  | .disi => false
  | _ => s.ie

/-- The run state after an instruction that completes (R352). -/
def runAfter (i : Instr) (s : State) : Run :=
  match i with
  | .slep => .idle
  | _ => s.run

/-- Every instruction is an operation on data, after which only `pc`, the stack, IE and the run state are touched. -/
def Frame (i : Instr) (s t : State) : Prop :=
  ∃ w, Keeps s w ∧
    t = { w with pc := t.pc, stack := stackAfter i s, ie := enableAfter i s, run := runAfter i s }

/-- An operation on data and a jump, of an instruction that touches neither stack nor IE nor run state. -/
theorem Keeps.frame {i : Instr} {s w : State} (h : Keeps s w) (p : Addr) (hstack : stackAfter i s = s.stack)
    (hie : enableAfter i s = s.ie) (hrun : runAfter i s = s.run) : Frame i s (w.setPc p) := by
  refine ⟨w, h, ?_⟩
  rw [hstack, hie, hrun, ← h.stack, ← h.ie, ← h.run]
  rfl

theorem exec_frame {i : Instr} {s t : State} (hx : exec i s = .next t) : Frame i s t := by
  have h := exec_effect hx
  cases i with
  | jmp k =>
    obtain rfl := h
    exact (Keeps.refl s).frame _ rfl rfl rfl
  | tbl =>
    obtain rfl := h
    exact ((Keeps.refl s).setFlags _).frame _ rfl rfl rfl
  | call k | int =>
    obtain ⟨-, -, rfl⟩ := h
    exact ⟨s, .refl s, rfl⟩
  | ret | reti =>
    obtain ⟨v, rest, hstack, rfl⟩ := h
    exact ⟨s, .refl s, by simp only [stackAfter, hstack]; rfl⟩
  | retl k =>
    obtain ⟨v, rest, hstack, rfl⟩ := h
    exact ⟨s.setA k, (Keeps.refl s).setA k, by simp only [stackAfter, hstack]; rfl⟩
  | eni | disi =>
    obtain ⟨-, rfl⟩ := h
    exact ⟨s, .refl s, rfl⟩
  | slep =>
    obtain ⟨-, rfl⟩ := h
    exact ⟨_, .clearWdt_setTP s true false, rfl⟩
  | movRA r =>
    obtain ⟨-, rfl⟩ | ⟨-, -, w, hw, rfl⟩ := h
    · exact (Keeps.refl s).frame _ rfl rfl rfl
    · exact hw.frame _ rfl rfl rfl
  | addRA r =>
    obtain ⟨-, rfl⟩ | ⟨-, -, w, hw, rfl⟩ := h
    · exact ((Keeps.refl s).setFlags _).frame _ rfl rfl rfl
    · exact hw.frame _ rfl rfl rfl
  | jbc r b | jbs r b | djzaR r | djzR r | jzaR r | jzR r =>
    obtain ⟨-, w, hw, rfl | rfl⟩ := h
    · exact hw.frame _ rfl rfl rfl
    · exact hw.frame _ rfl rfl rfl
  | _ =>
    obtain ⟨-, w, hw, rfl⟩ := h
    exact hw.frame _ rfl rfl rfl

/-- Settles O46, bit by bit: what follows the operation on data leaves RF. -/
theorem softwareOnlyClearsFlags : Obligations.SoftwareOnlyClearsFlags := by
  intro i s t hx
  obtain ⟨w, hw, ht⟩ := exec_frame hx
  have hrf : t.rf = w.rf := by rw [ht]
  refine BitVec.eq_of_getLsbD_eq fun k hk => ?_
  simp only [hrf, BitVec.getLsbD_and, BitVec.getLsbD_not, hk, BitVec.getLsbD_zero]
  cases hset : w.rf.getLsbD k with
  | false => rfl
  | true => simp [hw.flags k hset]

/-- Settles O47: a return's popped address is where it goes. -/
theorem onlyCallsAndReturnsMoveTheStack : Obligations.OnlyCallsAndReturnsMoveTheStack := by
  intro i s t hx
  have heffect := exec_effect hx
  obtain ⟨w, -, ht⟩ := exec_frame hx
  have hstack : t.stack = stackAfter i s := by rw [ht]
  cases i with
  | ret | retl _ | reti =>
    obtain ⟨v, rest, hpop, rfl⟩ := heffect
    exact hpop
  | _ => exact hstack

/-- Settles O48. -/
theorem onlyEniDisiRetiChangeTheEnable : Obligations.OnlyEniDisiRetiChangeTheEnable := by
  intro i s t hx
  obtain ⟨w, -, ht⟩ := exec_frame hx
  have hie : t.ie = enableAfter i s := by rw [ht]
  cases i <;> exact hie

/-! ## Events -/

/-- From `s` to `u` nothing changed but the devices: where the CPU goes, whether it runs, its interrupts, R3 and the
memory are as before. -/
structure DevicesOnly (s u : State) : Prop where
  pc : u.pc = s.pc
  stack : u.stack = s.stack
  run : u.run = s.run
  resetLow : u.resetLow = s.resetLow
  r3 : u.r3 = s.r3
  rf : u.rf = s.rf
  iocf : u.iocf = s.iocf
  mem : u.mem = s.mem

/-- What an event other than a reset and the watchdog's time-out can do: devices change, the flags `f` may be raised
under their mask, and the idle CPU may wake (R52, R353). -/
inductive Occurs (s : State) (f : BitVec 7) : State → Prop where
  | quiet {u : State} (h : DevicesOnly s u) : Occurs s f u
  | raises {u : State} (h : DevicesOnly s u) : Occurs s f (u.raise f)
  | wakes {u : State} (h : DevicesOnly s u) (hidle : s.run = .idle) : Occurs s f (u.raise f).wake

theorem DevicesOnly.refl (s : State) : DevicesOnly s s := ⟨rfl, rfl, rfl, rfl, rfl, rfl, rfl, rfl⟩

theorem DevicesOnly.setPort (s : State) (p : PortId) (v : Port) : DevicesOnly s (s.setPort p v) := by
  cases p <;> exact ⟨rfl, rfl, rfl, rfl, rfl, rfl, rfl, rfl⟩

theorem tccOverflow_occurs {s u : State} (h : DevicesOnly s u) : Occurs s 0x01#7 u.tccOverflow := by
  unfold State.tccOverflow
  dsimp only
  split
  · next hwakes =>
    obtain ⟨hidle, -, -⟩ := hwakes
    exact .wakes h (h.run.symm.trans hidle)
  · exact .raises h

theorem tccCount_occurs {s u : State} (h : DevicesOnly s u) : Occurs s 0x01#7 u.tccCount := by
  unfold State.tccCount
  split
  · exact tccOverflow_occurs ⟨h.pc, h.stack, h.run, h.resetLow, h.r3, h.rf, h.iocf, h.mem⟩
  · exact .quiet ⟨h.pc, h.stack, h.run, h.resetLow, h.r3, h.rf, h.iocf, h.mem⟩

theorem occur_tccTick (s : State) : Occurs s 0x01#7 (occur .tccTick s) := by
  have hpre : DevicesOnly s (s.setPre (s.pre + 1#8)) := ⟨rfl, rfl, rfl, rfl, rfl, rfl, rfl, rfl⟩
  simp only [occur, State.tccTick]
  split
  · split
    · exact tccCount_occurs (.refl s)
    · split
      · exact tccCount_occurs hpre
      · exact .quiet hpre
  · exact .quiet (.refl s)

theorem occur_counter1Tick (s : State) : Occurs s 0x20#7 (occur .counter1Tick s) := by
  simp only [occur, State.counter1Tick]
  split
  · split
    · split
      · exact .raises (u := { s with cpre1 := s.cpre1 + 1#3, cnt1 := 0#8 }) ⟨rfl, rfl, rfl, rfl, rfl, rfl, rfl, rfl⟩
      · exact .quiet ⟨rfl, rfl, rfl, rfl, rfl, rfl, rfl, rfl⟩
    · exact .quiet ⟨rfl, rfl, rfl, rfl, rfl, rfl, rfl, rfl⟩
  · exact .quiet (.refl s)

theorem occur_counter2Tick (s : State) : Occurs s 0x40#7 (occur .counter2Tick s) := by
  simp only [occur, State.counter2Tick]
  split
  · split
    · exact .raises (u := { s with cnt2 := 0#8 }) ⟨rfl, rfl, rfl, rfl, rfl, rfl, rfl, rfl⟩
    · exact .quiet ⟨rfl, rfl, rfl, rfl, rfl, rfl, rfl, rfl⟩
  · exact .quiet (.refl s)

/-- A change at port 9 wakes the idle CPU or does nothing (R355). -/
theorem wakeOnPort9_cases (s t : State) :
    (t.run = .idle ∧ wakeOnPort9 s t = t.wake) ∨ wakeOnPort9 s t = t := by
  unfold wakeOnPort9
  split
  · next h =>
    obtain ⟨hidle, -⟩ := h
    exact .inl ⟨hidle, rfl⟩
  · exact .inr rfl

/-- A pin change raises the flags of the port-6 edges it makes (R322). -/
theorem occur_pin (s : State) (p : PortId) (i : Fin 8) (d : PinDrive) :
    Occurs s (edgeFlags (fallenPins s (s.setPort p ((s.port p).drive i d)) .port6)) (occur (.pin p i d) s) := by
  have hport := DevicesOnly.setPort s p ((s.port p).drive i d)
  simp only [occur, State.pinChange]
  obtain ⟨hidle, hwakes⟩ | hstays := wakeOnPort9_cases s (recordEdges s (s.setPort p ((s.port p).drive i d)))
  · rw [hwakes]
    exact .wakes hport (hport.run.symm.trans hidle)
  · rw [hstays]
    exact .raises hport

theorem occur_supply (s : State) (v : Supply) : Occurs s 0#7 (occur (.supply v) s) := by
  cases v <;> exact .quiet ⟨rfl, rfl, rfl, rfl, rfl, rfl, rfl, rfl⟩

/-! ### Resets -/

theorem resetStatus_five (c : ResetCause) (s : State) : (resetStatus c s).getLsbD 5 = false := by
  have hkept : (if c = .supply then 0x07#8 else 0xC7#8).getLsbD 5 = false := by
    split <;> rfl
  simp only [resetStatus, statusTP_getLsbD _ _ _ (show 5 < 8 by omega), BitVec.getLsbD_and, hkept, Bool.and_false]
  rfl

/-- A reset leaves the invariant whatever held before but the memory's canonical form (R402). -/
theorem resetEvent_inv {s : State} (c : ResetCause) (h : s.mem.wf) : (resetEvent c s).inv :=
  ⟨Memory.wf_afterReset h, Nat.zero_le 8, resetStatus_five c s, fun hidle => (nomatch hidle),
    fun _ => ⟨rfl, rfl, rfl, rfl, rfl⟩⟩

/-! ### The invariant -/

/-- Settles O9: the reset state is written out, and the values stand in it. -/
theorem resetValues : Obligations.ResetValues := by
  unfold Obligations.ResetValues
  decide

/-- Settles O10: nothing is listed in memory, the stack is empty, and the CPU runs with /RESET high. -/
theorem resetMeetsInvariant : Obligations.ResetMeetsInvariant :=
  ⟨Memory.wf_empty, Nat.zero_le 8, rfl, fun hidle => (nomatch hidle), fun hlow => nomatch hlow⟩

theorem DevicesOnly.inv {s u : State} (h : DevicesOnly s u) (hs : s.inv) : u.inv := by
  obtain ⟨hpc, hstack, hrun, hlow, hr3, hrf, hiocf, hmem⟩ := h
  simpa only [State.inv, State.stackFits, State.statusReserved, State.idleConsistent, State.heldInReset, State.flagT,
    State.flagP, hpc, hstack, hrun, hlow, hr3, hrf, hiocf, hmem] using hs

/-- Raising flags keeps the invariant: held in reset no mask bit is set. -/
theorem raise_inv {s : State} (f : BitVec 7) (h : s.inv) : (s.raise f).inv := by
  obtain ⟨hmem, hstack, hr3, hidle, hheld⟩ := h
  refine ⟨hmem, hstack, hr3, hidle, fun hlow => ?_⟩
  obtain ⟨hpc, hrun, hempty, hrf, hiocf⟩ := hheld hlow
  exact ⟨hpc, hrun, hempty, by simp [State.raise, hrf, hiocf], hiocf⟩

theorem wake_inv {s : State} (h : s.inv) : s.wake.inv := by
  obtain ⟨hmem, hstack, hr3, -, hheld⟩ := h
  refine ⟨hmem, hstack, hr3, fun hidle => (nomatch hidle), fun hlow => ?_⟩
  obtain ⟨hpc, -, hempty, hrf, hiocf⟩ := hheld hlow
  exact ⟨hpc, rfl, hempty, hrf, hiocf⟩

theorem Occurs.inv {s t : State} {f : BitVec 7} (h : Occurs s f t) (hs : s.inv) : t.inv := by
  cases h with
  | quiet hu => exact hu.inv hs
  | raises hu => exact raise_inv f (hu.inv hs)
  | wakes hu _ => exact wake_inv (raise_inv f (hu.inv hs))

theorem setStatusTP_wake_inv {s : State} (t p : Bool) (h : s.inv) :
    (s.setStatus (statusTP t p s.r3)).wake.inv := by
  obtain ⟨hmem, hstack, hr3, -, hheld⟩ := h
  refine ⟨hmem, hstack, ?_, fun hidle => (nomatch hidle), fun hlow => ?_⟩
  · exact (statusTP_getLsbD t p s.r3 (by omega)).trans hr3
  · obtain ⟨hpc, -, hempty, hrf, hiocf⟩ := hheld hlow
    exact ⟨hpc, rfl, hempty, hrf, hiocf⟩

/-- Every event keeps the invariant. -/
theorem occur_inv (e : Event) {s : State} (h : s.inv) : (occur e s).inv := by
  have hwf : s.mem.wf := h.1
  cases e with
  | tccTick => exact (occur_tccTick s).inv h
  | counter1Tick => exact (occur_counter1Tick s).inv h
  | counter2Tick => exact (occur_counter2Tick s).inv h
  | pin p i d => exact (occur_pin s p i d).inv h
  | supply v => exact (occur_supply s v).inv h
  | watchdog =>
    simp only [occur, State.watchdogTimeout]
    split
    · split
      · exact resetEvent_inv .watchdog hwf
      · exact setStatusTP_wake_inv false false h
    · exact h
  | supplyReset c =>
    simp only [occur]
    split
    · exact resetEvent_inv .supply hwf
    · exact h
  | resetPin low =>
    simp only [occur, State.resetPinChange]
    split
    · split
      · exact h
      · obtain ⟨hmem, hstack, hr3, -, hheld⟩ := resetEvent_inv .pin hwf
        exact ⟨hmem, hstack, hr3, fun hidle => (nomatch hidle), fun _ => ⟨rfl, rfl, rfl, rfl, rfl⟩⟩
    · obtain ⟨hmem, hstack, hr3, hidle, -⟩ := h
      refine ⟨hmem, hstack, hr3, fun hrun => ?_, fun hlow => nomatch hlow⟩
      obtain ⟨hT, hP, -⟩ := hidle hrun
      exact ⟨hT, hP, rfl⟩

/-- With /RESET high the clause on the held machine says nothing. -/
theorem inv_of_resetHigh {t : State} (hmem : t.mem.wf) (hstack : t.stack.length ≤ 8) (hr3 : t.r3.getLsbD 5 = false)
    (hlow : t.resetLow = false) (hidle : t.run = .idle → t.flagT = true ∧ t.flagP = false) : t.inv :=
  ⟨hmem, hstack, hr3, fun h => ⟨(hidle h).1, (hidle h).2, hlow⟩, fun h => by simp [hlow] at h⟩

theorem stackAfter_length {i : Instr} {s t : State} (h : exec i s = .next t) (hs : s.stack.length ≤ 8) :
    (stackAfter i s).length ≤ 8 := by
  have heffect := exec_effect h
  cases i with
  | call _ | int =>
    obtain ⟨-, hroom, -⟩ := heffect
    exact hroom
  | ret | retl _ | reti =>
    simp only [stackAfter, List.length_tail]
    omega
  | _ => exact hs

/-- An instruction leaves the CPU idle only if it is SLEP, and then with T = 1 and P = 0 (R185, R352). -/
theorem idle_of_exec {i : Instr} {s t : State} (h : exec i s = .next t) (hrun : s.run = .running)
    (hidle : t.run = .idle) : i = .slep ∧ t.flagT = true ∧ t.flagP = false := by
  obtain ⟨w, -, ht⟩ := exec_frame h
  have hafter : runAfter i s = .idle := by rw [← hidle, ht]
  have hslep : i = .slep := by
    cases i with
    | slep => rfl
    | _ => exact nomatch hrun.symm.trans hafter
  subst hslep
  obtain ⟨-, rfl⟩ := exec_effect h
  exact ⟨rfl, statusTP_getLsbD true false s.r3 (by omega), statusTP_getLsbD true false s.r3 (by omega)⟩

/-- An instruction of a machine that runs keeps the invariant. -/
theorem exec_inv {i : Instr} {s t : State} (h : exec i s = .next t) (hs : s.inv) (hrun : s.run = .running)
    (hlow : s.resetLow = false) : t.inv := by
  obtain ⟨hmem, hstack, hr3, -, -⟩ := hs
  obtain ⟨w, hw, ht⟩ := exec_frame h
  refine inv_of_resetHigh ?_ ?_ ?_ ?_ fun hidle => (idle_of_exec h hrun hidle).2
  · rw [ht]
    exact hw.wf hmem
  · rw [ht]
    exact stackAfter_length h hstack
  · rw [ht]
    exact hw.unusedStatus.trans hr3
  · rw [ht]
    exact hw.resetLow.trans hlow

theorem interruptEntry_inv {s t : State} (h : interruptEntry s = .next t) (hs : s.inv) (hrun : s.run = .running)
    (hlow : s.resetLow = false) : t.inv := by
  obtain ⟨hmem, -, hr3, -, -⟩ := hs
  obtain ⟨hroom, rfl⟩ := interruptEntry_eq_next.1 h
  exact inv_of_resetHigh hmem hroom hr3 hlow fun hidle => nomatch hrun.symm.trans hidle

theorem cpuTurn_inv {s t : State} (h : cpuTurn s = .next t) (hs : s.inv) : t.inv := by
  obtain ⟨-, hturn⟩ | ⟨-, -, hturn⟩ | ⟨hlow, hrun, -, hturn⟩ | ⟨hlow, hrun, -, hturn⟩ := cpuTurn_cases s
  case inl =>
    obtain rfl := Host.Outcome.next.inj (hturn.symm.trans h)
    exact hs
  case inr.inl =>
    obtain rfl := Host.Outcome.next.inj (hturn.symm.trans h)
    exact hs
  case inr.inr.inl => exact interruptEntry_inv (hturn.symm.trans h) hs hrun hlow
  case inr.inr.inr =>
    obtain ⟨w, i, u, -, -, hu, rfl⟩ := runNext_eq_next.1 (hturn.symm.trans h)
    exact raise_inv _ (exec_inv hu hs hrun hlow)

/-- Settles O11: the CPU's turn by its four cases, an event by its kind. -/
theorem stepKeepsInvariant : Obligations.StepKeepsInvariant := by
  intro s t hs hstep
  obtain ⟨-, hturn⟩ | ⟨rest, -, hturn⟩ | ⟨e, rest, -, hturn⟩ := takeTurn_cases s
  · exact cpuTurn_inv (hturn.symm.trans hstep) hs
  · exact cpuTurn_inv (s := s.setAgenda rest) (hturn.symm.trans hstep) hs
  · obtain rfl := Host.Outcome.next.inj (hturn.symm.trans hstep)
    exact occur_inv e (s := s.setAgenda rest) hs

/-! ### Entering the idle state -/

theorem Occurs.run_of_running {s t : State} {f : BitVec 7} (h : Occurs s f t) (hs : s.run = .running) :
    t.run = .running := by
  cases h with
  | quiet hu | raises hu => exact hu.run.trans hs
  | wakes => rfl

/-- No event makes a running CPU idle. -/
theorem occur_run_of_running (e : Event) {s : State} (h : s.run = .running) : (occur e s).run = .running := by
  cases e with
  | tccTick => exact (occur_tccTick s).run_of_running h
  | counter1Tick => exact (occur_counter1Tick s).run_of_running h
  | counter2Tick => exact (occur_counter2Tick s).run_of_running h
  | pin p i d => exact (occur_pin s p i d).run_of_running h
  | supply v => exact (occur_supply s v).run_of_running h
  | watchdog =>
    simp only [occur, State.watchdogTimeout, h]
    split
    · rfl
    · exact h
  | supplyReset c =>
    simp only [occur]
    split
    · rfl
    · exact h
  | resetPin low =>
    simp only [occur, State.resetPinChange]
    split
    · split
      · exact h
      · rfl
    · exact h

/-- The word of SLEP is the only one that decodes to it (R150). -/
theorem decode_eq_slep {w : Word} (h : decode w = .instr .slep) : w = 0x0003#13 := by
  unfold decode at h
  split at h
  · next i hfixed =>
    obtain rfl : i = .slep := Decoded.instr.inj h
    refine BitVec.eq_of_toNat_eq ?_
    unfold decodeFixed at hfixed
    split at hfixed
    case h_4 hw => exact hw
    all_goals cases hfixed
  · unfold decodeFields decodeR decodeC decodeK8 at h
    repeat' split at h
    all_goals cases h

/-- The CPU's turn leaves a running CPU idle only by the word of SLEP. -/
theorem slep_of_cpuTurn_idle {s t : State} (h : cpuTurn s = .next t) (hrun : s.run = .running)
    (hidle : t.run = .idle) : s.mem.romRead s.pc.toNat = some 0x0003#13 := by
  obtain ⟨-, hturn⟩ | ⟨-, hs, -⟩ | ⟨-, -, -, hturn⟩ | ⟨-, -, -, hturn⟩ := cpuTurn_cases s
  case inl =>
    obtain rfl := Host.Outcome.next.inj (hturn.symm.trans h)
    exact nomatch hrun.symm.trans hidle
  case inr.inl => exact nomatch hrun.symm.trans hs
  case inr.inr.inl =>
    obtain ⟨-, rfl⟩ := interruptEntry_eq_next.1 (hturn.symm.trans h)
    exact nomatch hrun.symm.trans hidle
  case inr.inr.inr =>
    obtain ⟨w, i, u, hw, hi, hu, rfl⟩ := runNext_eq_next.1 (hturn.symm.trans h)
    obtain ⟨rfl, -, -⟩ := idle_of_exec hu hrun hidle
    rw [hw, decode_eq_slep hi]

/-- Settles O49: an event leaves a running CPU running, and of the instructions only SLEP does not. -/
theorem idleIsEnteredBySlepOnly : Obligations.IdleIsEnteredBySlepOnly := by
  intro s t hrun hstep hidle
  obtain ⟨-, hturn⟩ | ⟨rest, -, hturn⟩ | ⟨e, rest, -, hturn⟩ := takeTurn_cases s
  · exact slep_of_cpuTurn_idle (hturn.symm.trans hstep) hrun hidle
  · exact slep_of_cpuTurn_idle (s := s.setAgenda rest) (hturn.symm.trans hstep) hrun hidle
  · obtain rfl := Host.Outcome.next.inj (hturn.symm.trans hstep)
    exact nomatch (occur_run_of_running e (s := s.setAgenda rest) hrun).symm.trans hidle

/-! ## What a read of a cell returns -/

theorem toNat_append_eq {m n : Nat} (x : BitVec m) (y : BitVec n) : (x ++ y).toNat = 2 ^ n * x.toNat + y.toNat := by
  rw [BitVec.toNat_append, ← Nat.shiftLeft_add_eq_or_of_lt y.isLt, Nat.shiftLeft_eq, Nat.mul_comm]

theorem setWidth_eq_zeros_append {n k w : Nat} (h : k + n = w) (x : BitVec n) : x.setWidth w = (0#k ++ x).cast h := by
  subst h
  have hlt : x.toNat < 2 ^ (k + n) := x.isLt.trans_le (Nat.pow_le_pow_right (by omega) (by omega))
  refine BitVec.eq_of_toNat_eq ?_
  rw [BitVec.toNat_setWidth, Nat.mod_eq_of_lt hlt, BitVec.toNat_cast, toNat_append_eq, BitVec.toNat_ofNat]
  simp

theorem pcl_eq_pclByte (s : State) : s.pcl = pclByte s := by
  unfold State.pcl pclByte State.nextPc
  refine BitVec.eq_of_toNat_eq ?_
  split <;> simp [BitVec.toNat_add]

theorem dromAddress_eq (s : State) : s.dromAddress = 65536 * s.rd.toNat + 256 * s.rc.toNat + s.rb.toNat := by
  simp only [State.dromAddress, toNat_append_eq]
  omega

theorem lcdAddress_eq (s : State) : s.lcdAddress = 256 * s.r11.toNat + s.r10.toNat := by
  simp only [State.lcdAddress, toNat_append_eq]
  omega

theorem floatingPins_getLsbD (s : State) (p : PortId) {j : Nat} (hj : j < 8) :
    (s.floatingPins p).getLsbD j =
      ((s.port p).dir.getLsbD j && !(s.port p).driven.getLsbD j && !(s.pullHigh p).getLsbD j) := by
  simp only [State.floatingPins, BitVec.getLsbD_and, BitVec.getLsbD_not, hj, decide_true, Bool.true_and]

/-- The level of a pin: the latch of an output; of an input what the outside drives, else 1 under a pull-high, else the
environment's level (R81, R378). -/
theorem pinLevel_getLsbD (s : State) (p : PortId) {j : Nat} (hj : j < 8) :
    (s.pinLevel p).getLsbD j =
      if (s.port p).dir.getLsbD j then
        if (s.port p).driven.getLsbD j then (s.port p).ext.getLsbD j
        else (s.pullHigh p).getLsbD j || (s.port p).ext.getLsbD j
      else (s.port p).latch.getLsbD j := by
  simp only [State.pinLevel, BitVec.getLsbD_or, BitVec.getLsbD_and, BitVec.getLsbD_not, hj, decide_true, Bool.true_and]
  cases (s.port p).dir.getLsbD j <;> cases (s.port p).driven.getLsbD j <;> simp

/-- A read of a port shows the level of every pin that does not float. -/
theorem readCell_port (care : Byte) (p : PortId) (s : State) :
    ∃ v u, readCell care (.port p) s = .next (v, u) ∧ u = { s with draws := u.draws } ∧
      ∀ j, j < 8 →
        ((s.port p).dir.getLsbD j = false → v.getLsbD j = (s.port p).latch.getLsbD j) ∧
        ((s.port p).dir.getLsbD j = true → (s.port p).driven.getLsbD j = true →
          v.getLsbD j = (s.port p).ext.getLsbD j) ∧
        ((s.port p).dir.getLsbD j = true → (s.port p).driven.getLsbD j = false →
          (s.pullHigh p).getLsbD j = true → v.getLsbD j = true) := by
  obtain ⟨v, u, hread, hu, hv⟩ :=
    readCell_of_peekCell_bits care (c := .port p) (s := s) (k := s.pinLevel p) (o := s.floatingPins p) rfl
  refine ⟨v, u, hread, hu, fun j hj =>
    ⟨fun hout => ?output, fun hin hdriven => ?driven, fun hin hfree hpull => ?pulled⟩⟩
  case output =>
    rw [hv j hj (by simp [floatingPins_getLsbD s p hj, hout]), pinLevel_getLsbD s p hj]
    simp [hout]
  case driven =>
    rw [hv j hj (by simp [floatingPins_getLsbD s p hj, hdriven]), pinLevel_getLsbD s p hj]
    simp [hin, hdriven]
  case pulled =>
    rw [hv j hj (by simp [floatingPins_getLsbD s p hj, hpull]), pinLevel_getLsbD s p hj]
    simp [hin, hfree, hpull]

theorem readCell_status (care : Byte) (s : State) :
    ∃ v u, readCell care .status s = .next (v, u) ∧ u = { s with draws := u.draws } ∧
      ∀ j, j < 8 → j ≠ 5 → v.getLsbD j = s.r3.getLsbD j := by
  have hopen : ∀ j, j < 8 → j ≠ 5 → (0x20#8).getLsbD j = false := by decide
  obtain ⟨v, u, hread, hu, hv⟩ :=
    readCell_of_peekCell_bits care (c := .status) (s := s) (k := s.r3) (o := 0x20#8) rfl
  exact ⟨v, u, hread, hu, fun j hj hne => hv j hj (hopen j hj hne)⟩

theorem readCell_page (care : Byte) (s : State) :
    ∃ v u, readCell care .page s = .next (v, u) ∧ u = { s with draws := u.draws } ∧
      ∀ j, j < 5 → v.getLsbD j = s.r5.getLsbD j := by
  have hopen : ∀ j, j < 5 → (0xE0#8).getLsbD j = false := by decide
  obtain ⟨v, u, hread, hu, hv⟩ :=
    readCell_of_peekCell_bits care (c := .page) (s := s) (k := s.r5.setWidth 8) (o := 0xE0#8) rfl
  refine ⟨v, u, hread, hu, fun j hj => ?_⟩
  have hj8 : j < 8 := by omega
  rw [hv j hj8 (hopen j hj), BitVec.getLsbD_setWidth, decide_eq_true hj8, Bool.true_and]

theorem readCell_ra (care : Byte) (s : State) :
    ∃ v u, readCell care .ra s = .next (v, u) ∧ u = { s with draws := u.draws } ∧
      (∀ j, j < 7 → v.getLsbD j = s.ra.getLsbD j) ∧ (s.lpdEnabled = true → v.getLsbD 7 = s.lpd) := by
  have hopen : ∀ j, j < 7 → (if s.lpdEnabled then 0#8 else 0x80#8).getLsbD j = false := by
    split <;> decide
  obtain ⟨v, u, hread, hu, hv⟩ :=
    readCell_of_peekCell_bits care (c := .ra) (s := s) (k := BitVec.ofBool s.lpd ++ s.ra)
      (o := if s.lpdEnabled then 0#8 else 0x80#8) rfl
  refine ⟨v, u, hread, hu, fun j hj => ?_, fun henabled => ?_⟩
  · rw [hv j (by omega) (hopen j hj), BitVec.getLsbD_append, if_pos hj]
  · rw [hv 7 (by omega) (by simp [henabled]), BitVec.getLsbD_append, if_neg (by omega)]
    simp

/-- Settles O15: the closed cells read as they stand, and of the others every bit that is not open. -/
theorem readsReturnCells : Obligations.ReadsReturnCells := by
  intro care s
  refine ⟨readCell_of_peekCell_closed care rfl, ?pcl, readCell_of_peekCell_closed care rfl,
    readCell_of_peekCell_closed care rfl, readCell_of_peekCell_closed care rfl, ?rd, ?re, ?rf,
    readCell_of_peekCell_closed care rfl, ?r11, fun k => readCell_of_peekCell_closed care rfl, ?r12,
    readCell_status care s, readCell_page care s, readCell_ra care s, fun p => readCell_port care p s⟩
  case pcl =>
    rw [← pcl_eq_pclByte]
    exact readCell_of_peekCell_closed care rfl
  case re =>
    rw [← dromAddress_eq]
    exact readCell_of_peekCell_closed care rfl
  case rd => exact readCell_of_peekCell_closed care (by rw [peekCell, setWidth_eq_zeros_append (k := 3) rfl]; rfl)
  case rf => exact readCell_of_peekCell_closed care (by rw [peekCell, setWidth_eq_zeros_append (k := 1) rfl]; rfl)
  case r11 => exact readCell_of_peekCell_closed care (by rw [peekCell, setWidth_eq_zeros_append (k := 4) rfl]; rfl)
  case r12 =>
    intro hlt hback
    rw [← lcdAddress_eq] at hlt ⊢
    exact readCell_of_peekCell_closed care (by simp [peekCell, hlt, hback])

/-! ## What a write leaves in a cell -/

theorem extractLsb'_mixBits_open {known opened free : Byte} {k n : Nat} (hn : k + n ≤ 8)
    (h : ∀ i, i < n → opened.getLsbD (k + i) = true) :
    (mixBits known opened free).extractLsb' k n = free.extractLsb' k n := by
  refine BitVec.eq_of_getLsbD_eq fun i hi => ?_
  simp [BitVec.getLsbD_extractLsb', mixBits_getLsbD _ _ _ (show k + i < 8 by omega), h i hi]

theorem extractLsb'_mixBits_closed {known opened free : Byte} {k n : Nat} (hn : k + n ≤ 8)
    (h : ∀ i, i < n → opened.getLsbD (k + i) = false) :
    (mixBits known opened free).extractLsb' k n = known.extractLsb' k n := by
  refine BitVec.eq_of_getLsbD_eq fun i hi => ?_
  simp [BitVec.getLsbD_extractLsb', mixBits_getLsbD _ _ _ (show k + i < 8 by omega), h i hi]

/-- A store to R3 takes bits 7, 6, 2, 1, 0 from the value, and T and P where they are writable (R37). -/
theorem writeCell_status {v : Byte} {s t : State} (h : writeCell .status v s = .next t) :
    t.r3.extractLsb' 6 2 = v.extractLsb' 6 2 ∧ t.r3.extractLsb' 0 3 = v.extractLsb' 0 3 ∧
      t.r3.getLsbD 5 = s.r3.getLsbD 5 ∧
      t.r3.extractLsb' 3 2 = if s.cfg.r3TpWritable then v.extractLsb' 3 2 else s.r3.extractLsb' 3 2 := by
  have hunused := writeCell_unusedStatus h
  obtain rfl : s.setStatus (mixBits s.r3 s.statusMask v) = t := Host.Outcome.next.inj h
  refine ⟨extractLsb'_mixBits_open (by omega) ?_, extractLsb'_mixBits_open (by omega) ?_, hunused, ?_⟩
  · unfold State.statusMask
    split <;> decide
  · unfold State.statusMask
    split <;> decide
  · cases htp : s.cfg.r3TpWritable with
    | true => exact extractLsb'_mixBits_open (by omega) (by simp only [State.statusMask, htp]; decide)
    | false => exact extractLsb'_mixBits_closed (by omega) (by simp only [State.statusMask, htp]; decide)

/-- The cells that hold a whole byte read back what was written. -/
theorem readCell_writeCell {c : Cell} {v : Byte} {s t : State} (care : Byte) (hm : s.mem.wf)
    (hc : c = .tcc ∨ c = .rsr ∨ c = .rb ∨ c = .rc ∨ c = .r10 ∨ (c = .r12 ∧ s.cfg.lcdReadsBack = true) ∨ ∃ k, c = .gpr k)
    (h : writeCell c v s = .next t) : readCell care c t = .next (v, t) := by
  refine readCell_of_peekCell_closed care ?_
  obtain rfl | rfl | rfl | rfl | rfl | ⟨rfl, hback⟩ | ⟨k, rfl⟩ := hc
  case inr.inr.inr.inr.inr.inl =>
    simp only [writeCell] at h
    split at h
    · next hlt =>
      cases h
      have hread := Memory.lcdRead_lcdWrite_self hm s.lcdAddress v
      have hkept : (s.setMem (s.mem.lcdWrite s.lcdAddress v)).lcdAddress = s.lcdAddress := rfl
      simp [peekCell, hkept, hlt, hback, hread]
    · cases h
  case inr.inr.inr.inr.inr.inr =>
    cases h
    have hread := Memory.ramRead_ramWrite_self hm k v
    simp [peekCell, hread]
  all_goals
    cases h
    rfl

/-- Only the low bits of a byte go into a narrower register. -/
theorem setWidth_setWidth_eq_and {n : Nat} (v mask : Byte) (h : ∀ i, i < 8 → mask.getLsbD i = decide (i < n)) :
    (v.setWidth n).setWidth 8 = v &&& mask := by
  refine BitVec.eq_of_getLsbD_eq fun i hi => ?_
  rw [BitVec.getLsbD_and, BitVec.getLsbD_setWidth, BitVec.getLsbD_setWidth, h i hi, decide_eq_true hi, Bool.true_and,
    Bool.and_comm]

/-- A write of RF keeps the flags set both before and in the value (R53). -/
theorem and_setWidth_eq (f : BitVec 7) (v : Byte) : (f &&& v.setWidth 7).setWidth 8 = v &&& (0#1 ++ f) := by
  refine BitVec.eq_of_getLsbD_eq fun i hi => ?_
  simp only [BitVec.getLsbD_and, BitVec.getLsbD_setWidth, BitVec.getLsbD_append, hi, decide_true, Bool.true_and]
  by_cases h : i < 7
  · simp [h, Bool.and_comm]
  · simp [h]

/-- Settles O16, cell by cell. -/
theorem writesAreReadBack : Obligations.WritesAreReadBack := by
  intro c v s hm hpcl hre hpresent
  obtain ⟨t, ht⟩ := writeCell_of_present v hpcl hre hpresent
  refine ⟨t, ht, fun hc => readCell_writeCell allBits hm hc ht, ?tcc, ?rd, ?r11, ?rf, ?page, ?ra, ?port, ?status⟩
  case status =>
    rintro rfl
    exact writeCell_status ht
  case port =>
    rintro p rfl
    cases ht
    cases p <;> rfl
  case tcc =>
    rintro rfl
    cases ht
    rfl
  case page =>
    rintro rfl
    cases ht
    exact BitVec.setWidth_eq_extractLsb' (v := 8) (w := 5) (by omega)
  case ra =>
    rintro rfl
    cases ht
    exact ⟨BitVec.setWidth_eq_extractLsb' (v := 8) (w := 7) (by omega), rfl⟩
  case rd =>
    rintro rfl
    cases ht
    rw [← setWidth_setWidth_eq_and (n := 5) v 0x1F#8 (by decide)]
    exact readCell_of_peekCell_closed allBits rfl
  case r11 =>
    rintro rfl
    cases ht
    rw [← setWidth_setWidth_eq_and (n := 4) v 0x0F#8 (by decide)]
    exact readCell_of_peekCell_closed allBits rfl
  case rf =>
    rintro rfl
    cases ht
    rw [← and_setWidth_eq]
    exact readCell_of_peekCell_closed allBits rfl

/-! ## The low-power detector and the reset event -/

/-- Settles O60. -/
theorem lowPowerDetector : Obligations.LowPowerDetector := by
  intro v s
  refine ⟨rfl, rfl, rfl, fun t ht => ?_⟩
  cases ht
  exact ⟨rfl, BitVec.setWidth_eq_extractLsb' (v := 8) (w := 7) (by omega)⟩

theorem resetEvent_flagT (c : ResetCause) (s : State) : (resetEvent c s).flagT = (resetTP c s).1 :=
  statusTP_getLsbD _ _ _ (by omega)

theorem resetEvent_flagP (c : ResetCause) (s : State) : (resetEvent c s).flagP = (resetTP c s).2 :=
  statusTP_getLsbD _ _ _ (by omega)

/-- Power-on clears bits 7 to 5 of R3 (R83). -/
theorem resetStatus_supply (s : State) : (resetStatus .supply s).extractLsb' 5 3 = 0#3 := by
  have hmask : ∀ i, i < 3 → (0x07#8).getLsbD (5 + i) = false := by decide
  refine BitVec.eq_of_getLsbD_eq fun i hi => ?_
  simp only [BitVec.getLsbD_extractLsb', hi, decide_true, resetStatus, if_true,
    statusTP_getLsbD _ _ _ (show 5 + i < 8 by omega), BitVec.getLsbD_and, hmask i hi, Bool.and_false,
    if_neg (show 5 + i ≠ 4 by omega), if_neg (show 5 + i ≠ 3 by omega), BitVec.getLsbD_zero]

/-- Power-on clears bits 7 and 6 of R4 (R83). -/
theorem resetRsr_supply (s : State) : (resetRsr .supply s).extractLsb' 6 2 = 0#2 := by
  have hmask : ∀ i, i < 2 → (0x3F#8).getLsbD (6 + i) = false := by decide
  refine BitVec.eq_of_getLsbD_eq fun i hi => ?_
  simp only [BitVec.getLsbD_extractLsb', hi, decide_true, resetRsr, if_true, BitVec.getLsbD_and,
    hmask i hi, Bool.and_false, BitVec.getLsbD_zero]

/-- Settles O58: the listed registers as the reset event writes them, T and P by the cause. -/
theorem resetEventSetsTheList : Obligations.ResetEventSetsTheList := by
  intro c s
  refine ⟨resetEvent c s, rfl, rfl, rfl, rfl, rfl, rfl, rfl, rfl, rfl, fun hv => decide_eq_false hv, rfl, rfl, rfl, rfl,
    rfl, rfl, rfl, rfl, rfl, rfl, rfl, rfl, rfl, rfl, rfl, rfl, rfl, rfl, ?supply, ?watchdog, ?pin, rfl, rfl, rfl, rfl,
    rfl, rfl, rfl, rfl⟩
  case supply =>
    rintro rfl
    exact ⟨resetStatus_supply s, resetRsr_supply s, resetEvent_flagT .supply s, resetEvent_flagP .supply s⟩
  case watchdog =>
    rintro rfl
    exact ⟨resetEvent_flagT .watchdog s, resetEvent_flagP .watchdog s⟩
  case pin =>
    rintro rfl hidle
    rw [resetEvent_flagT, resetEvent_flagP]
    simp [resetTP, hidle]

/-! ## Flow: where it completes and where it is refused -/

theorem advance_of_ne {s : State} (h : s.pc ≠ 0x7FFF#15) : advance s = .next (s.setPc (s.pc + 1#15)) := if_neg h

theorem advance_atEnd {s : State} (h : s.pc = 0x7FFF#15) : advance s = .refused .pastProgramEnd := if_pos h

theorem skipIf_atEnd (c : Bool) {s : State} (h : s.pc = 0x7FFF#15) : skipIf c s = .refused .pastProgramEnd := by
  cases c with
  | false => exact advance_atEnd h
  | true =>
    have hlast : 0x7FFE ≤ s.pc.toNat := by rw [h]; decide
    exact if_pos hlast

theorem skipIf_true_atEnd {s : State} (h : 0x7FFE ≤ s.pc.toNat) : skipIf true s = .refused .pastProgramEnd := if_pos h

theorem pushNext_atEnd {s : State} (h : s.pc = 0x7FFF#15) : pushNext s = .refused .pastProgramEnd := if_pos h

theorem pushNext_full {s : State} (h : s.pc ≠ 0x7FFF#15) (hfull : 8 ≤ s.stack.length) :
    pushNext s = .refused .stackFull := by
  rw [pushNext, if_neg h, push, if_pos hfull]

theorem returnToTop_empty {s : State} (h : s.stack = []) : returnToTop s = .refused .stackEmpty := by
  simp [returnToTop, pop, h]

/-- Settles O42. -/
theorem stackLimits : Obligations.StackLimits := by
  intro k l s
  refine ⟨fun hfull hend => ⟨?call, ?int⟩, fun hempty => ⟨returnToTop_empty hempty, ?retl, ?reti⟩⟩
  case call => rw [exec, execCall, pushNext_full hend hfull, andThen_refused]
  case int => rw [exec, execInt, pushNext_full hend hfull, andThen_refused]
  case retl => rw [exec, execRetl, returnToTop_empty hempty, andThen_refused]
  case reti => rw [exec, execReti, returnToTop_empty hempty, andThen_refused]

/-! ## Control registers -/

theorem exec_iow_of_iocWrite {r : IocNumber} {s w : State} (hend : s.pc ≠ 0x7FFF#15)
    (h : iocWrite r s.a s = .next w) : exec (.iow r) s = .next (w.setPc (s.pc + 1#15)) := by
  have hpc : w.pc = s.pc := (Keeps.iocWrite h).pc
  rw [exec, execIow, h, andThen_next, advance_of_ne (hpc ▸ hend), hpc]

theorem exec_ior_of_iocRead {r : IocNumber} {s : State} {v : Byte} (hend : s.pc ≠ 0x7FFF#15)
    (h : iocRead r s = .next v) : exec (.ior r) s = .next { s with a := v, pc := s.pc + 1#15 } := by
  rw [exec, execIor, h, andThen_next]
  exact advance_of_ne hend

/-- Settles O38, register by register. -/
theorem controlRegisterWrites : Obligations.ControlRegisterWrites := by
  intro s hend
  rw [← BitVec.setWidth_eq_extractLsb' (v := 8) (w := 7) (by omega),
    ← BitVec.setWidth_eq_extractLsb' (v := 8) (w := 2) (by omega)]
  refine ⟨(exec_iow_of_iocWrite (r := 0x6) hend rfl :), (exec_iow_of_iocWrite (r := 0x7) hend rfl :),
    (exec_iow_of_iocWrite (r := 0x8) hend rfl :), (exec_iow_of_iocWrite (r := 0x9) hend rfl :),
    (exec_iow_of_iocWrite (r := 0xA) hend rfl :), (exec_iow_of_iocWrite (r := 0xF) hend rfl :),
    fun hpage => ?page0, fun hpage => ?page1⟩
  case page0 =>
    have hpage : s.iocPage = false := hpage
    exact ⟨exec_iow_of_iocWrite (w := { s with iocb := s.a }) hend (by simp [iocWrite, hpage]),
      exec_iow_of_iocWrite (w := { s with iocc := s.a }) hend (by simp [iocWrite, hpage]),
      exec_iow_of_iocWrite (w := { s with iocd := s.a }) hend (by simp [iocWrite, hpage]),
      exec_iow_of_iocWrite (w := { s with ioce := s.a.setWidth 2 }) hend (by simp [iocWrite, hpage])⟩
  case page1 =>
    have hpage : s.iocPage = true := hpage
    exact ⟨⟨_, exec_iow_of_iocWrite (w := s.presetCounter1 s.a) hend (by simp [iocWrite, hpage]), rfl⟩,
      exec_iow_of_iocWrite (w := { s with cnt2 := s.a }) hend (by simp [iocWrite, hpage])⟩

/-- IOCA bits 3 to 0 read 0 (R67). -/
theorem append_zeros_eq (x : BitVec 4) : x ++ 0#4 = BitVec.ofNat 8 (16 * x.toNat) := by
  have hlt := x.isLt
  refine BitVec.eq_of_toNat_eq ?_
  rw [toNat_append_eq, BitVec.toNat_ofNat, BitVec.toNat_ofNat]
  omega

/-- Settles O39, register by register. -/
theorem controlRegisterReads : Obligations.ControlRegisterReads := by
  intro s hend
  have hiocf : s.iocf.setWidth 8 = 0#1 ++ s.iocf := setWidth_eq_zeros_append (k := 1) rfl s.iocf
  have hioce : s.ioce.setWidth 8 = 0#6 ++ s.ioce := setWidth_eq_zeros_append (k := 6) rfl s.ioce
  rw [← hiocf, ← hioce, ← append_zeros_eq]
  refine ⟨exec_ior_of_iocRead hend rfl, exec_ior_of_iocRead hend rfl, exec_ior_of_iocRead hend rfl,
    exec_ior_of_iocRead hend rfl, exec_ior_of_iocRead hend rfl, exec_ior_of_iocRead hend rfl,
    fun hpage => ?page0, fun hpage => ?page1⟩
  case page0 =>
    have hpage : s.iocPage = false := hpage
    exact ⟨exec_ior_of_iocRead hend (by simp [iocRead, hpage]), exec_ior_of_iocRead hend (by simp [iocRead, hpage]),
      exec_ior_of_iocRead hend (by simp [iocRead, hpage]), exec_ior_of_iocRead hend (by simp [iocRead, hpage])⟩
  case page1 =>
    have hpage : s.iocPage = true := hpage
    exact ⟨exec_ior_of_iocRead hend (by simp [iocRead, hpage]), exec_ior_of_iocRead hend (by simp [iocRead, hpage])⟩

/-! ### CONT -/

/-- CONTW stores the byte, and the prescaler may change only with its assignment or ratio (R181, U11). -/
theorem writeCont_eq (s : State) (v : Byte) :
    s.writeCont v = { s with cont := v, pre := (s.writeCont v).pre, draws := (s.writeCont v).draws } := by
  unfold State.writeCont
  split <;> rfl

theorem writeCont_pre {s : State} {v : Byte} (h : prescalerBits v = prescalerBits s.cont) :
    (s.writeCont v).pre = s.pre := by
  rw [State.writeCont, if_pos h]
  rfl

theorem mixBits_and_of_disjoint {opened mask : Byte} (h : opened &&& mask = 0#8) (known free : Byte) :
    mixBits known opened free &&& mask = known &&& mask := by
  refine BitVec.eq_of_getLsbD_eq fun i hi => ?_
  have hbit : (opened &&& mask).getLsbD i = false := by rw [h, BitVec.getLsbD_zero]
  rw [BitVec.getLsbD_and] at hbit
  rw [BitVec.getLsbD_and, BitVec.getLsbD_and, mixBits_getLsbD _ _ _ hi]
  cases hopen : opened.getLsbD i <;> simp_all

/-- Settles O36. -/
theorem contwAndContr : Obligations.ContwAndContr := by
  intro s hend
  refine ⟨⟨(s.writeCont s.a).setPc (s.pc + 1#15), ?contw, ?stored, ?frame, fun hsame => ?pre⟩,
    ⟨_, advance_of_ne hend, rfl, mixBits_and_of_disjoint (by decide) s.cont (s.freeByte 0)⟩⟩
  case contw =>
    have hpc : (s.writeCont s.a).pc = s.pc := (Keeps.writeCont s s.a).pc
    rw [exec, execContw, advance_of_ne (hpc ▸ hend), hpc]
  case stored => rw [writeCont_eq]; rfl
  case frame => rw [writeCont_eq]; rfl
  case pre =>
    refine writeCont_pre ?_
    rw [prescalerBits, prescalerBits, BitVec.setWidth_eq_extractLsb' (by omega),
      BitVec.setWidth_eq_extractLsb' (by omega), hsame]

/-! ## The register instructions by their shapes -/

/-- An instruction that reads its register is a result to A, a count to A or a bit test. -/
theorem registerSource_shape {i : Instr} {r : Designator} {b : BitNumber} (h : i ∈ registerSource r b) (s : State) :
    (∃ f, exec i s = resultToA r f s) ∨ (∃ f, exec i s = countToA r f s) ∨
      ∃ wanted, exec i s = skipOnBit r b wanted s := by
  simp only [registerSource, List.mem_cons, List.not_mem_nil, or_false] at h
  rcases h with rfl | rfl | rfl | rfl | rfl | rfl | rfl | rfl | rfl | rfl | rfl | rfl | rfl | rfl | rfl | rfl
  · exact .inl ⟨_, Eq.refl (execSubAR r s)⟩
  · exact .inl ⟨_, Eq.refl (execDecaR r s)⟩
  · exact .inl ⟨_, Eq.refl (execOrAR r s)⟩
  · exact .inl ⟨_, Eq.refl (execAndAR r s)⟩
  · exact .inl ⟨_, Eq.refl (execXorAR r s)⟩
  · exact .inl ⟨_, Eq.refl (execAddAR r s)⟩
  · exact .inl ⟨_, Eq.refl (execMovAR r s)⟩
  · exact .inl ⟨_, Eq.refl (execComaR r s)⟩
  · exact .inl ⟨_, Eq.refl (execIncaR r s)⟩
  · exact .inr (.inl ⟨_, Eq.refl (execDjzaR r s)⟩)
  · exact .inl ⟨_, Eq.refl (execRrcaR r s)⟩
  · exact .inl ⟨_, Eq.refl (execRlcaR r s)⟩
  · exact .inl ⟨_, Eq.refl (execSwapaR r s)⟩
  · exact .inr (.inl ⟨_, Eq.refl (execJzaR r s)⟩)
  · exact .inr (.inr ⟨_, Eq.refl (execJbc r b s)⟩)
  · exact .inr (.inr ⟨_, Eq.refl (execJbs r b s)⟩)

/-- An instruction that writes its register and affects a flag is CLR R, ADD R,A or a result to the register. -/
theorem flaggedDestination_shape {i : Instr} {r : Designator} (h : i ∈ flaggedDestination r) (s : State) :
    i = .clrR r ∨ i = .addRA r ∨ ∃ f, exec i s = resultToR r f s := by
  simp only [flaggedDestination, List.mem_cons, List.not_mem_nil, or_false] at h
  rcases h with rfl | rfl | rfl | rfl | rfl | rfl | rfl | rfl | rfl | rfl | rfl | rfl
  · exact .inl rfl
  · exact .inr (.inr ⟨_, Eq.refl (execSubRA r s)⟩)
  · exact .inr (.inr ⟨_, Eq.refl (execDecR r s)⟩)
  · exact .inr (.inr ⟨_, Eq.refl (execOrRA r s)⟩)
  · exact .inr (.inr ⟨_, Eq.refl (execAndRA r s)⟩)
  · exact .inr (.inr ⟨_, Eq.refl (execXorRA r s)⟩)
  · exact .inr (.inl rfl)
  · exact .inr (.inr ⟨_, Eq.refl (execMovRR r s)⟩)
  · exact .inr (.inr ⟨_, Eq.refl (execComR r s)⟩)
  · exact .inr (.inr ⟨_, Eq.refl (execIncR r s)⟩)
  · exact .inr (.inr ⟨_, Eq.refl (execRrcR r s)⟩)
  · exact .inr (.inr ⟨_, Eq.refl (execRlcR r s)⟩)

/-- An instruction that writes its register is MOV R,A, or affects a flag, or modifies or counts without one. -/
theorem registerDestination_shape {i : Instr} {r : Designator} {b : BitNumber} (h : i ∈ registerDestination r b)
    (s : State) :
    i = .movRA r ∨ i ∈ flaggedDestination r ∨ (∃ care f, exec i s = modifyR r care f s) ∨
      ∃ f, exec i s = countToR r f s := by
  by_cases hflag : i ∈ flaggedDestination r
  · exact .inr (.inl hflag)
  have hrest : i = .movRA r ∨ i = .djzR r ∨ i = .swapR r ∨ i = .jzR r ∨ i = .bc r b ∨ i = .bs r b := by
    simp only [registerDestination, flaggedDestination, List.mem_cons, List.not_mem_nil, or_false] at h hflag
    tauto
  obtain rfl | rfl | rfl | rfl | rfl | rfl := hrest
  · exact .inl rfl
  · exact .inr (.inr (.inr ⟨_, Eq.refl (execDjzR r s)⟩))
  · exact .inr (.inr (.inl ⟨_, _, Eq.refl (execSwapR r s)⟩))
  · exact .inr (.inr (.inr ⟨_, Eq.refl (execJzR r s)⟩))
  · exact .inr (.inr (.inl ⟨_, _, Eq.refl (execBc r b s)⟩))
  · exact .inr (.inr (.inl ⟨_, _, Eq.refl (execBs r b s)⟩))

/-! ### Each shape after its operand is read -/

section
variable {r : Designator} {c : Cell} {s u : State} {v : Byte}

theorem resultToA_of_read (hc : names r s c) (hu : readCell allBits c s = .next (v, u)) (f : Byte → Alu) :
    resultToA r f s = advance ((u.setStatus ((f v).status u.r3)).setA (f v).val) := by
  rw [resultToA, resolve_of_names hc, andThen_next, hu, andThen_next]

theorem resultToCell_of_read (hc : c ≠ .status) (hu : readCell allBits c s = .next (v, u)) (f : Byte → Alu) :
    resultToCell c f s =
      andThen (writeCell c (f v).val u) fun t => advance (t.setStatus ((f v).status t.r3)) := by
  rw [resultToCell, if_neg hc, hu, andThen_next]

theorem modifyR_of_read {care : Cell → Byte} (hc : names r s c) (hu : readCell (care c) c s = .next (v, u))
    (f : Byte → Byte) : modifyR r care f s = andThen (writeCell c (f v) u) advance := by
  rw [modifyR, resolve_of_names hc, andThen_next, hu, andThen_next]

theorem countToA_of_read (hc : names r s c) (hu : readCell allBits c s = .next (v, u)) (f : Byte → Byte) :
    countToA r f s = skipIf (isZero (f v)) (u.setA (f v)) := by
  rw [countToA, resolve_of_names hc, andThen_next, hu, andThen_next]

theorem countToR_of_read (hc : names r s c) (hu : readCell allBits c s = .next (v, u)) (f : Byte → Byte) :
    countToR r f s = andThen (writeCell c (f v) u) (skipIf (isZero (f v))) := by
  rw [countToR, resolve_of_names hc, andThen_next, hu, andThen_next]

theorem skipOnBit_of_read {b : BitNumber} (hc : names r s c) (hu : readCell (1#8 <<< b.toNat) c s = .next (v, u))
    (wanted : Bool) : skipOnBit r b wanted s = skipIf (v.getLsbD b.toNat == wanted) u := by
  rw [skipOnBit, resolve_of_names hc, andThen_next, hu, andThen_next]

theorem resultToR_of_names (hc : names r s c) (f : Byte → Alu) : resultToR r f s = resultToCell c f s := by
  rw [resultToR, resolve_of_names hc, andThen_next]

theorem execMovRA_of_names (hc : names r s c) (hpcl : c ≠ .pcl) :
    execMovRA r s = andThen (writeCell c s.a s) advance := by
  rw [execMovRA, resolve_of_names hc, andThen_next, if_neg hpcl]

theorem execAddRA_of_names (hc : names r s c) (hpcl : c ≠ .pcl) : execAddRA r s = resultToCell c (addAlu s.a) s := by
  rw [execAddRA, resolve_of_names hc, andThen_next, if_neg hpcl]

theorem execClrR_of_names (hc : names r s c) (hstatus : c ≠ .status) :
    execClrR r s =
      andThen (writeCell c 0#8 s) fun t => advance (t.setStatus ((zeroAlu 0#8).status t.r3)) := by
  rw [execClrR, resolve_of_names hc, andThen_next, if_neg hstatus]

end

/-! ## Refused destinations -/

section
variable {i : Instr} {r : Designator} {b : BitNumber} {c : Cell} {s : State} {why : Refusal}

theorem resultToCell_of_writeRefused (hstatus : c ≠ .status) (hp : present c s)
    (hw : ∀ v u, writeCell c v u = .refused why) (f : Byte → Alu) : resultToCell c f s = .refused why := by
  obtain ⟨v, u, hu, -⟩ := readCell_of_present allBits hp
  rw [resultToCell_of_read hstatus hu, hw, andThen_refused]

/-- A cell that refuses every write refuses it to every instruction but the two that jump through R2. -/
theorem exec_of_writeRefused (hi : i ∈ registerDestination r b) (hc : names r s c) (hstatus : c ≠ .status)
    (hp : present c s) (hw : ∀ v u, writeCell c v u = .refused why)
    (hjump : c = .pcl → i ≠ .movRA r ∧ i ≠ .addRA r) : exec i s = .refused why := by
  obtain rfl | hflag | ⟨care, f, hx⟩ | ⟨f, hx⟩ := registerDestination_shape hi s
  · have hpcl : c ≠ .pcl := fun h => (hjump h).1 rfl
    rw [exec, execMovRA_of_names hc hpcl, hw, andThen_refused]
  · obtain rfl | rfl | ⟨f, hx⟩ := flaggedDestination_shape hflag s
    · rw [exec, execClrR_of_names hc hstatus, hw, andThen_refused]
    · have hpcl : c ≠ .pcl := fun h => (hjump h).2 rfl
      rw [exec, execAddRA_of_names hc hpcl, resultToCell_of_writeRefused hstatus hp hw]
    · rw [hx, resultToR_of_names hc, resultToCell_of_writeRefused hstatus hp hw]
  · obtain ⟨v, u, hu, -⟩ := readCell_of_present (care c) hp
    rw [hx, modifyR_of_read hc hu, hw, andThen_refused]
  · obtain ⟨v, u, hu, -⟩ := readCell_of_present allBits hp
    rw [hx, countToR_of_read hc hu, hw, andThen_refused]

theorem exec_status_of_flagged (hi : i ∈ flaggedDestination r) (hc : names r s .status) :
    exec i s = .refused .statusDestination := by
  obtain rfl | rfl | ⟨f, hx⟩ := flaggedDestination_shape hi s
  · rw [exec, execClrR, resolve_of_names hc, andThen_next, if_pos rfl]
  · rw [exec, execAddRA_of_names hc (by decide), resultToCell, if_pos rfl]
  · rw [hx, resultToR_of_names hc, resultToCell, if_pos rfl]

end

/-- Settles O40. -/
theorem refusedDestinations : Obligations.RefusedDestinations := by
  intro r b i s
  refine ⟨fun hi hmov hadd hc => ?_, exec_status_of_flagged, fun hi hc => ?_⟩
  · exact exec_of_writeRefused hi hc (by decide) (fun h => nomatch h) (fun _ _ => rfl) fun _ => ⟨hmov, hadd⟩
  · exact exec_of_writeRefused hi hc (by decide) (fun h => nomatch h) (fun _ _ => rfl) fun h => nomatch h

/-! ## Stores that affect no flag -/

theorem writeCell_pc {c : Cell} {v : Byte} {s t : State} (h : writeCell c v s = .next t) : t.pc = s.pc := by
  obtain ⟨-, hpc, -⟩ := writeCell_keeps h
  exact hpc

theorem readCell_pc {care : Byte} {c : Cell} {s u : State} {v : Byte} (h : readCell care c s = .next (v, u)) :
    u.pc = s.pc :=
  ((Keeps.refl s).readCell h).pc

/-- A read-modify-write of a cell that can be written completes (R264, R265). -/
theorem registerBecomes_of_modifyR {i : Instr} {r : Designator} {c : Cell} {s : State} {care : Cell → Byte}
    {f : Byte → Byte} (hx : exec i s = modifyR r care f s) (hc : names r s c) (hp : present c s)
    (hend : s.pc ≠ 0x7FFF#15) (hpcl : c ≠ .pcl) (hre : c ≠ .re) : registerBecomes i c s (care c) f := by
  obtain ⟨v, u, hu, hframe⟩ := readCell_of_present (care c) hp
  obtain ⟨w, hw⟩ := writeCell_of_present (f v) hpcl hre (present_after_readCell hp hu)
  have hpc : w.pc = s.pc := (writeCell_pc hw).trans (readCell_pc hu)
  refine ⟨v, u, w, hu, hframe, hw, ?_⟩
  rw [hx, modifyR_of_read hc hu, hw, andThen_next, advance_of_ne (hpc ▸ hend), hpc]
  rfl

theorem swapNibbles_eq_rotateLeft (v : Byte) : swapNibbles v = v.rotateLeft 4 := by
  refine BitVec.eq_of_getLsbD_eq fun i hi => ?_
  simp only [swapNibbles, BitVec.getLsbD_append, BitVec.getLsbD_rotateLeft, BitVec.getLsbD_extractLsb']
  by_cases hlow : i < 4
  · simp [hlow]
  · have hhigh : i - 4 < 4 := by omega
    simp [hlow, hhigh, hi]

/-- Settles O27. -/
theorem storesWithoutFlags : Obligations.StoresWithoutFlags := by
  intro r b s c hc hp hend hpcl hre
  refine ⟨?mov, ?swap, registerBecomes_of_modifyR (r := r) rfl hc hp hend hpcl hre,
    registerBecomes_of_modifyR (r := r) rfl hc hp hend hpcl hre⟩
  case mov =>
    obtain ⟨w, hw⟩ := writeCell_of_present s.a hpcl hre hp
    have hpc : w.pc = s.pc := writeCell_pc hw
    refine ⟨w, hw, ?_⟩
    rw [exec, execMovRA_of_names hc hpcl, hw, andThen_next, advance_of_ne (hpc ▸ hend), hpc]
    rfl
  case swap =>
    rw [← funext swapNibbles_eq_rotateLeft]
    exact registerBecomes_of_modifyR (r := r) (care := fun _ => allBits) rfl hc hp hend hpcl hre

/-! ## The end of the program -/

/-- At the last address only the transfers that need no next address complete (R29). -/
theorem Effect.atEnd {i : Instr} {s t : State} (h : Effect i s t) (hend : s.pc = 0x7FFF#15) :
    (∃ k, i = .jmp k) ∨ i = .ret ∨ (∃ k, i = .retl k) ∨ i = .reti ∨ i = .tbl ∨
      ∃ r, (i = .movRA r ∨ i = .addRA r) ∧ names r s .pcl := by
  cases i with
  | jmp k => exact .inl ⟨k, rfl⟩
  | ret => exact .inr (.inl rfl)
  | retl k => exact .inr (.inr (.inl ⟨k, rfl⟩))
  | reti => exact .inr (.inr (.inr (.inl rfl)))
  | tbl => exact .inr (.inr (.inr (.inr (.inl rfl))))
  | movRA r =>
    obtain ⟨hpcl, -⟩ | ⟨-, hne, -⟩ := h
    · exact .inr (.inr (.inr (.inr (.inr ⟨r, .inl rfl, hpcl⟩))))
    · exact absurd hend hne
  | addRA r =>
    obtain ⟨hpcl, -⟩ | ⟨-, hne, -⟩ := h
    · exact .inr (.inr (.inr (.inr (.inr ⟨r, .inr rfl, hpcl⟩))))
    · exact absurd hend hne
  | _ =>
    obtain ⟨hne, -⟩ := h
    exact absurd hend hne

theorem literalToA_atEnd (x : Alu) {s : State} (hend : s.pc = 0x7FFF#15) :
    literalToA x s = .refused .pastProgramEnd :=
  advance_atEnd hend

/-- The instructions with no register operand that go on to the next word or push it are refused at the last address. -/
theorem exec_atEnd {i : Instr} {k : Byte} {p : BitVec 4} {j : BitVec 10} {s : State} (hend : s.pc = 0x7FFF#15)
    (hi : i ∈ [.nop, .daa, .contw, .slep, .wdtc, .eni, .disi, .contr, .clra, .movAK k, .orAK k, .andAK k, .xorAK k,
      .subAK k, .addAK k, .page p, .int, .call j]) : exec i s = .refused .pastProgramEnd := by
  simp only [List.mem_cons, List.not_mem_nil, or_false] at hi
  rcases hi with rfl | rfl | rfl | rfl | rfl | rfl | rfl | rfl | rfl | rfl | rfl | rfl |
    rfl | rfl | rfl | rfl | rfl | rfl
  · exact advance_atEnd hend
  · exact literalToA_atEnd (daaAlu s.cfg.daaDefault s.a s.flagC s.flagDC) hend
  · exact advance_atEnd ((Keeps.writeCont s s.a).pc.trans hend)
  · have hadvance : advance (s.clearWdt.setStatus (statusTP true false s.r3)) = .refused .pastProgramEnd :=
      advance_atEnd hend
    rw [exec, execSlep, hadvance, andThen_refused]
  · exact advance_atEnd (s := s.clearWdt.setStatus _) hend
  · exact advance_atEnd (s := s.setIe true) hend
  · exact advance_atEnd (s := s.setIe false) hend
  · exact advance_atEnd (s := (s.setA _).drew 1) hend
  · exact literalToA_atEnd (zeroAlu 0#8) hend
  · exact literalToA_atEnd { val := k } hend
  · exact literalToA_atEnd (zeroAlu (s.a ||| k)) hend
  · exact literalToA_atEnd (zeroAlu (s.a &&& k)) hend
  · exact literalToA_atEnd (zeroAlu (s.a ^^^ k)) hend
  · exact literalToA_atEnd (subAlu s.cfg.subCIsNotBorrow k s.a) hend
  · exact literalToA_atEnd (addAlu s.a k) hend
  · exact advance_atEnd (s := s.setPage _) hend
  · rw [exec, execInt, pushNext_atEnd hend, andThen_refused]
  · rw [exec, execCall, pushNext_atEnd hend, andThen_refused]

/-- IOW completes on every control register that is there (R107). -/
theorem iocWrite_of_exists {r : IocNumber} (v : Byte) {s : State} (hr : 6 ≤ r.toNat)
    (hpage : ¬ (s.iocPage = true ∧ (r = 0xD#4 ∨ r = 0xE#4))) : ∃ w, iocWrite r v s = .next w := by
  have hoff {k : IocNumber} (hk : k = 0xD#4 ∨ k = 0xE#4) (hrk : r.toNat = k.toNat) : ¬ s.iocPage = true :=
    fun hon => hpage ⟨hon, BitVec.eq_of_toNat_eq hrk ▸ hk⟩
  have hlt := r.isLt
  unfold iocWrite
  split
  case h_8 hD => exact ⟨_, if_neg (hoff (.inl rfl) hD)⟩
  case h_9 hE => exact ⟨_, if_neg (hoff (.inr rfl) hE)⟩
  case h_11 =>
    simp only [imp_false] at *
    omega
  all_goals exact ⟨_, rfl⟩

theorem iocRead_of_exists {r : IocNumber} {s : State} (hr : 6 ≤ r.toNat)
    (hpage : ¬ (s.iocPage = true ∧ (r = 0xD#4 ∨ r = 0xE#4))) : ∃ v, iocRead r s = .next v := by
  obtain hv | ⟨-, hon, hr'⟩ | ⟨-, hlow⟩ := iocRead_cases r s
  · exact hv
  · exact absurd ⟨hon, hr'⟩ hpage
  · omega

/-! ### Register instructions at the last address -/

section
variable {i : Instr} {r : Designator} {b : BitNumber} {c : Cell} {s : State}

/-- A store that completes goes on as its continuation does. -/
theorem andThen_writeCell_of_present {k : State → Answer} {v : Byte} {a : Answer} (hpcl : c ≠ .pcl) (hre : c ≠ .re)
    (hp : present c s) (hk : ∀ w, w.pc = s.pc → k w = a) : andThen (writeCell c v s) k = a := by
  obtain ⟨w, hw⟩ := writeCell_of_present v hpcl hre hp
  rw [hw, andThen_next, hk w (writeCell_pc hw)]

theorem exec_registerSource_atEnd (hi : i ∈ registerSource r b) (hc : names r s c) (hp : present c s)
    (hend : s.pc = 0x7FFF#15) : exec i s = .refused .pastProgramEnd := by
  obtain ⟨f, hx⟩ | ⟨f, hx⟩ | ⟨wanted, hx⟩ := registerSource_shape hi s
  · obtain ⟨v, u, hu, -⟩ := readCell_of_present allBits hp
    rw [hx, resultToA_of_read hc hu]
    exact advance_atEnd ((readCell_pc hu).trans hend)
  · obtain ⟨v, u, hu, -⟩ := readCell_of_present allBits hp
    rw [hx, countToA_of_read hc hu]
    exact skipIf_atEnd _ ((readCell_pc hu).trans hend)
  · obtain ⟨v, u, hu, -⟩ := readCell_of_present (1#8 <<< b.toNat) hp
    rw [hx, skipOnBit_of_read hc hu]
    exact skipIf_atEnd _ ((readCell_pc hu).trans hend)

theorem resultToCell_atEnd (hp : present c s) (hend : s.pc = 0x7FFF#15) (hpcl : c ≠ .pcl) (hre : c ≠ .re)
    (hstatus : c ≠ .status) (f : Byte → Alu) : resultToCell c f s = .refused .pastProgramEnd := by
  obtain ⟨v, u, hu, -⟩ := readCell_of_present allBits hp
  rw [resultToCell_of_read hstatus hu]
  exact andThen_writeCell_of_present hpcl hre (present_after_readCell hp hu) fun w hpc =>
    advance_atEnd (hpc.trans ((readCell_pc hu).trans hend))

theorem exec_flaggedDestination_atEnd (hi : i ∈ flaggedDestination r) (hc : names r s c) (hp : present c s)
    (hend : s.pc = 0x7FFF#15) (hpcl : c ≠ .pcl) (hre : c ≠ .re) (hstatus : c ≠ .status) :
    exec i s = .refused .pastProgramEnd := by
  obtain rfl | rfl | ⟨f, hx⟩ := flaggedDestination_shape hi s
  · rw [exec, execClrR_of_names hc hstatus]
    exact andThen_writeCell_of_present hpcl hre hp fun w hpc => advance_atEnd (hpc.trans hend)
  · rw [exec, execAddRA_of_names hc hpcl, resultToCell_atEnd hp hend hpcl hre hstatus]
  · rw [hx, resultToR_of_names hc, resultToCell_atEnd hp hend hpcl hre hstatus]

theorem exec_registerDestination_atEnd (hi : i ∈ registerDestination r b) (hc : names r s c) (hp : present c s)
    (hend : s.pc = 0x7FFF#15) (hpcl : c ≠ .pcl) (hre : c ≠ .re) (hstatus : c = .status → i ∉ flaggedDestination r) :
    exec i s = .refused .pastProgramEnd := by
  obtain rfl | hflag | ⟨care, f, hx⟩ | ⟨f, hx⟩ := registerDestination_shape hi s
  · rw [exec, execMovRA_of_names hc hpcl]
    exact andThen_writeCell_of_present hpcl hre hp fun w hpc => advance_atEnd (hpc.trans hend)
  · exact exec_flaggedDestination_atEnd hflag hc hp hend hpcl hre fun h => hstatus h hflag
  · obtain ⟨v, u, hu, -⟩ := readCell_of_present (care c) hp
    rw [hx, modifyR_of_read hc hu]
    exact andThen_writeCell_of_present hpcl hre (present_after_readCell hp hu) fun w hpc =>
      advance_atEnd (hpc.trans ((readCell_pc hu).trans hend))
  · obtain ⟨v, u, hu, -⟩ := readCell_of_present allBits hp
    rw [hx, countToR_of_read hc hu]
    exact andThen_writeCell_of_present hpcl hre (present_after_readCell hp hu) fun w hpc =>
      skipIf_atEnd _ (hpc.trans ((readCell_pc hu).trans hend))

/-! ### Skips over the last address -/

theorem skipOnBit_pastEnd {u : State} {v : Byte} {wanted : Bool} (hlast : 0x7FFE ≤ s.pc.toNat) (hc : names r s c)
    (hu : readCell (1#8 <<< b.toNat) c s = .next (v, u)) (hbit : v.getLsbD b.toNat = wanted) :
    skipOnBit r b wanted s = .refused .pastProgramEnd := by
  rw [skipOnBit_of_read hc hu, hbit, beq_self_eq_true]
  exact skipIf_true_atEnd ((readCell_pc hu).symm ▸ hlast)

theorem countToA_pastEnd {u : State} {v : Byte} {f : Byte → Byte} (hlast : 0x7FFE ≤ s.pc.toNat) (hc : names r s c)
    (hu : readCell allBits c s = .next (v, u)) (hzero : isZero (f v) = true) :
    countToA r f s = .refused .pastProgramEnd := by
  rw [countToA_of_read hc hu, hzero]
  exact skipIf_true_atEnd (s := u.setA (f v)) ((readCell_pc hu).symm ▸ hlast)

theorem countToR_pastEnd {u : State} {v : Byte} {f : Byte → Byte} (hlast : 0x7FFE ≤ s.pc.toNat) (hc : names r s c)
    (hu : readCell allBits c s = .next (v, u)) (hzero : isZero (f v) = true) (hpcl : c ≠ .pcl) (hre : c ≠ .re) :
    countToR r f s = .refused .pastProgramEnd := by
  rw [countToR_of_read hc hu, hzero]
  exact andThen_writeCell_of_present hpcl hre (present_after_readCell (present_of_readCell hu) hu) fun w hpc =>
    skipIf_true_atEnd ((hpc.trans (readCell_pc hu)).symm ▸ hlast)

end

/-- Settles O41, clause by clause: what completes at the last address, what is refused there with no register, on a
control register and on a register, and the skips over it. -/
theorem nothingPassesTheProgramEnd : Obligations.NothingPassesTheProgramEnd := by
  refine ⟨fun i s t hend hx => (exec_effect hx).atEnd hend, fun i k p j s hend hi => exec_atEnd hend hi,
    fun r s hend hr hpage => ⟨?iow, ?ior⟩, fun r b i s c hend hc hp hi => ?register,
    fun r b s u c v hlast hc hu => ⟨skipOnBit_pastEnd hlast hc hu, skipOnBit_pastEnd hlast hc hu⟩,
    fun r s u c v hlast hc hu => ⟨?down, ?up⟩⟩
  case iow =>
    obtain ⟨w, hw⟩ := iocWrite_of_exists s.a hr hpage
    rw [exec, execIow, hw, andThen_next]
    exact advance_atEnd ((Keeps.iocWrite hw).pc.trans hend)
  case ior =>
    obtain ⟨v, hv⟩ := iocRead_of_exists hr hpage
    rw [exec, execIor, hv, andThen_next]
    exact advance_atEnd hend
  case register =>
    obtain hsource | ⟨hdest, hpcl, hre, hstatus⟩ := hi
    · exact exec_registerSource_atEnd hsource hc hp hend
    · exact exec_registerDestination_atEnd hdest hc hp hend hpcl hre hstatus
  case down =>
    rintro rfl
    exact ⟨countToA_pastEnd (f := fun v => v - 1#8) hlast hc hu rfl,
      countToR_pastEnd (f := fun v => v - 1#8) hlast hc hu rfl⟩
  case up =>
    rintro rfl
    exact ⟨countToA_pastEnd (f := fun v => v + 1#8) hlast hc hu rfl,
      countToR_pastEnd (f := fun v => v + 1#8) hlast hc hu rfl⟩

/-! ## The flags that events raise -/

/-- An event leaves RF, or adds its flags under their mask (R52). -/
theorem Occurs.rf {s t : State} {f : BitVec 7} (h : Occurs s f t) : t.rf = s.rf ∨ t.rf = s.rf ||| (f &&& s.iocf) := by
  cases h with
  | quiet hu => exact .inl hu.rf
  | raises hu | wakes hu _ => exact .inr (by rw [← hu.rf, ← hu.iocf]; rfl)

/-- So it clears none, and gains at most its own. -/
theorem Occurs.rf_bounds {s t : State} {f : BitVec 7} (h : Occurs s f t) :
    s.rf ||| (f &&& s.iocf) = t.rf ||| (f &&& s.iocf) ∧ s.rf &&& ~~~t.rf = 0#7 := by
  obtain hrf | hrf := h.rf
  · rw [hrf]
    exact ⟨rfl, by simp⟩
  · rw [hrf]
    refine ⟨by rw [BitVec.or_assoc, BitVec.or_self], BitVec.eq_of_getLsbD_eq fun i hi => ?_⟩
    cases hset : s.rf.getLsbD i <;> simp [hset]

/-! ### Edges of port 6 -/

/-- A pin's bit is its level, and no bit stands above the eight pins. -/
theorem pinLevel_port6 (s : State) (j : Nat) : (s.pinLevel .port6).getLsbD j = level6 s j := by
  by_cases hj : j < 8
  · exact pinLevel_getLsbD s .port6 hj
  · simp [level6, BitVec.getLsbD_of_ge _ _ (Nat.le_of_not_lt hj)]

theorem fallenPins_port6 (s t : State) (j : Nat) :
    (fallenPins s t .port6).getLsbD j = (level6 s j && !level6 t j) := by
  have habove : ¬ j < 8 → level6 s j = false := fun hj => by
    rw [← pinLevel_port6, BitVec.getLsbD_of_ge _ _ (Nat.le_of_not_lt hj)]
  simp only [fallenPins, BitVec.getLsbD_and, BitVec.getLsbD_not, pinLevel_port6]
  by_cases hj : j < 8
  · simp [hj]
  · simp [habove hj]

theorem and_ne_zero_eq_any (x m : Byte) :
    decide (x &&& m ≠ 0#8) = (List.range 8).any fun j => m.getLsbD j && x.getLsbD j := by
  rw [Bool.eq_iff_iff, decide_eq_true_iff, List.any_eq_true]
  constructor
  · intro hne
    by_contra hnone
    refine hne (BitVec.eq_of_getLsbD_eq fun j hj => ?_)
    have hbit := fun h => hnone ⟨j, List.mem_range.2 hj, h⟩
    rw [Bool.and_comm] at hbit
    simpa using hbit
  · rintro ⟨j, -, hbit⟩ hzero
    rw [Bool.and_comm, ← BitVec.getLsbD_and, hzero, BitVec.getLsbD_zero] at hbit
    cases hbit

/-- Bit `k` of the raised flags: a pin that shares it fell (R322). -/
theorem edgeFlags_getLsbD (fell : Byte) {k : Nat} (hk : k < 7) :
    (edgeFlags fell).getLsbD k = (List.range 8).any fun j => flagOfPin j == k && fell.getLsbD j := by
  simp only [edgeFlags, and_ne_zero_eq_any, BitVec.getLsbD_append]
  interval_cases k <;> simp [List.range, List.range.loop, flagOfPin]

theorem edgeFlags_zero : edgeFlags 0#8 = 0#7 := by decide

/-- One falling pin raises the one flag it shares (R322). -/
theorem edgeFlags_pin (j : Fin 8) : edgeFlags (1#8 <<< j.val) = 1#7 <<< flagOfPin j.val := by
  revert j
  decide

/-! ### A change at one pin -/

/-- Driving pin `i` changes nothing at another pin. -/
theorem drive_bits_of_ne (p : Port) (i : Fin 8) (d : PinDrive) {j : Nat} (hj : j < 8) (hne : i.val ≠ j) :
    (p.drive i d).dir = p.dir ∧ (p.drive i d).latch = p.latch ∧ (p.drive i d).ext.getLsbD j = p.ext.getLsbD j ∧
      (p.drive i d).driven.getLsbD j = p.driven.getLsbD j := by
  cases d <;> exact ⟨rfl, rfl, by simp only [Port.drive, putBit_getLsbD _ _ hj, if_neg hne],
    by simp only [Port.drive, putBit_getLsbD _ _ hj, if_neg hne]⟩

theorem level6_drive_of_ne (s : State) (i : Fin 8) (d : PinDrive) {j : Nat} (hj : j < 8) (hne : i.val ≠ j) :
    level6 (s.setPort .port6 (s.p6.drive i d)) j = level6 s j := by
  obtain ⟨hdir, hlatch, hext, hdriven⟩ := drive_bits_of_ne s.p6 i d hj hne
  simp only [level6, State.setPort, hdir, hlatch, hext, hdriven]

/-- Of a change at pin `i` only that pin can fall. -/
theorem fallenPins_drive_port6 (s : State) (i : Fin 8) (d : PinDrive) :
    fallenPins s (s.setPort .port6 (s.p6.drive i d)) .port6 =
      if level6 s i.val && !level6 (s.setPort .port6 (s.p6.drive i d)) i.val then 1#8 <<< i.val else 0#8 := by
  refine BitVec.eq_of_getLsbD_eq fun j hj => ?_
  rw [fallenPins_port6]
  by_cases hij : i.val = j
  · subst hij
    split <;> simp_all
  · rw [level6_drive_of_ne s i d hj hij, Bool.and_not_self]
    have hbit : (1#8 <<< i.val).getLsbD j = false := by
      rw [BitVec.getLsbD_shiftLeft, BitVec.getLsbD_one]
      grind
    split
    · exact hbit.symm
    · exact BitVec.getLsbD_zero.symm

theorem fallenPins_port6_of_otherPort (s : State) {p : PortId} (hp : p ≠ .port6) (v : Port) :
    fallenPins s (s.setPort p v) .port6 = 0#8 := by
  have hsame : (s.setPort p v).pinLevel .port6 = s.pinLevel .port6 := by
    cases p with
    | port6 => exact absurd rfl hp
    | _ => rfl
  rw [fallenPins, hsame]
  exact BitVec.and_not_self _

/-- RF after a pin change: the flags of the port-6 edges it makes, under their mask. -/
theorem occur_pin_rf (s : State) (p : PortId) (i : Fin 8) (d : PinDrive) :
    (occur (.pin p i d) s).rf =
      s.rf ||| (edgeFlags (fallenPins s (s.setPort p ((s.port p).drive i d)) .port6) &&& s.iocf) := by
  have hport := DevicesOnly.setPort s p ((s.port p).drive i d)
  simp only [occur, State.pinChange]
  rw [← hport.rf, ← hport.iocf]
  obtain ⟨-, hwakes⟩ | hstays := wakeOnPort9_cases s (recordEdges s (s.setPort p ((s.port p).drive i d)))
  · rw [hwakes]
    rfl
  · rw [hstays]
    rfl

/-- A wake-up and the recording of edges leave the pins alone. -/
theorem level6_occur_pin (s : State) (i : Fin 8) (d : PinDrive) (j : Nat) :
    level6 (occur (.pin .port6 i d) s) j = level6 (s.setPort .port6 (s.p6.drive i d)) j := by
  simp only [occur, State.pinChange]
  obtain ⟨-, hwakes⟩ | hstays :=
    wakeOnPort9_cases s (recordEdges s (s.setPort .port6 ((s.port .port6).drive i d)))
  · rw [hwakes]
    rfl
  · rw [hstays]
    rfl

/-- A change at a pin of port 6 raises the flag the pin shares exactly if its level falls (R322). -/
theorem occur_pin6_rf (s : State) (i : Fin 8) (d : PinDrive) :
    (occur (.pin .port6 i d) s).rf =
      if level6 s i.val && !level6 (occur (.pin .port6 i d) s) i.val then
        s.rf ||| ((1#7 <<< flagOfPin i.val) &&& s.iocf)
      else s.rf := by
  rw [occur_pin_rf, level6_occur_pin]
  have hfell := fallenPins_drive_port6 s i d
  split
  · next hlevel =>
    rw [if_pos hlevel] at hfell
    rw [← edgeFlags_pin, ← hfell]
    rfl
  · next hlevel =>
    rw [if_neg hlevel] at hfell
    have hnone : edgeFlags (fallenPins s (s.setPort .port6 ((s.port .port6).drive i d)) .port6) = 0#7 := by
      rw [← edgeFlags_zero, ← hfell]
      rfl
    rw [hnone, BitVec.zero_and, BitVec.or_zero]

/-- Settles O51: the counters by what an event can do, a pin by the edges it makes. -/
theorem eventsRaiseMaskedFlagsOnly : Obligations.EventsRaiseMaskedFlagsOnly := by
  intro e s
  refine ⟨?tcc, ?counter1, ?counter2, ?pin6, ?pin, ?supply, ?watchdog, ?resetPin⟩
  case tcc =>
    rintro rfl
    exact (occur_tccTick s).rf_bounds
  case counter1 =>
    rintro rfl
    exact (occur_counter1Tick s).rf_bounds
  case counter2 =>
    rintro rfl
    exact (occur_counter2Tick s).rf_bounds
  case pin6 =>
    rintro j d rfl
    rw [occur_pin6_rf]
    split
    · exact .inr rfl
    · exact .inl rfl
  case pin =>
    rintro p j d rfl hp
    rw [occur_pin_rf, fallenPins_port6_of_otherPort s hp, edgeFlags_zero, BitVec.zero_and, BitVec.or_zero]
  case supply =>
    rintro v rfl
    cases v <;> rfl
  case watchdog =>
    rintro rfl hidle
    simp only [occur, State.watchdogTimeout, hidle]
    split <;> rfl
  case resetPin =>
    rintro rfl
    rfl

/-! ### Edges made by the program -/

/-- After a CPU step RF is what the instruction left, with the flags of the pins that fell, under their mask (R323). -/
theorem step_edges {s s' u : State} {w : Word} {i : Instr} (hm : cpuMoves s s') (he : executes s)
    (hw : s.mem.romRead s.pc.toNat = some w) (hi : decode w = .instr i)
    (hx : exec i { s' with wdt := s.wdt + 1, irqHold := false } = .next u) :
    ∃ t, step s = .next t ∧ t = { u with rf := t.rf } ∧
      ∀ k, k < 7 → t.rf.getLsbD k = (u.rf.getLsbD k || (u.iocf.getLsbD k && pinFell s u k)) := by
  refine ⟨recordEdges s' u, ?_, recordEdges_eq s' u, fun k hk => ?_⟩
  · rw [step_of_decode hm he hw hi, hx, andThen_next]
  · have hlevel : level6 s' = level6 s := by rw [eq_setAgenda_of_cpuMoves hm]; rfl
    have hfell : (edgeFlags (fallenPins s' u .port6)).getLsbD k = pinFell s u k := by
      rw [edgeFlags_getLsbD _ hk]
      simp only [pinFell, fallenPins_port6, hlevel, Bool.and_assoc]
    simp only [recordEdges_eq, BitVec.getLsbD_or, BitVec.getLsbD_and, hfell, Bool.and_comm]

theorem flagOfPin_lt (j : Nat) : flagOfPin j < 7 := by
  unfold flagOfPin
  split <;> omega

theorem pinFell_of_level6 {s t : State} (j : Fin 8) (hs : level6 s j.val = true) (ht : level6 t j.val = false) :
    pinFell s t (flagOfPin j.val) = true :=
  List.any_eq_true.2 ⟨j.val, List.mem_range.2 j.isLt, by simp [hs, ht]⟩

/-- A pin of port 6 that an instruction lets fall raises its flag under the mask, and the step leaves the port as the
instruction did. -/
theorem step_fall {s s' u : State} {w : Word} {i : Instr} (j : Fin 8) (hm : cpuMoves s s') (he : executes s)
    (hw : s.mem.romRead s.pc.toNat = some w) (hi : decode w = .instr i)
    (hx : exec i { s' with wdt := s.wdt + 1, irqHold := false } = .next u) (hiocf : u.iocf = s.iocf)
    (hs : level6 s j.val = true) (hu : level6 u j.val = false) :
    ∃ t, step s = .next t ∧ t.p6 = u.p6 ∧
      (s.iocf.getLsbD (flagOfPin j.val) = true → t.rf.getLsbD (flagOfPin j.val) = true) := by
  obtain ⟨t, hstep, hframe, hrf⟩ := step_edges hm he hw hi hx
  refine ⟨t, hstep, by rw [hframe], fun hmask => ?_⟩
  rw [hrf _ (flagOfPin_lt j.val), hiocf, hmask, pinFell_of_level6 j hs hu]
  simp

theorem exec_mov6 {s : State} (hend : s.pc ≠ 0x7FFF#15) :
    exec (.movRA 6) s = .next { s with p6 := { s.p6 with latch := s.a }, pc := s.pc + 1#15 } := by
  have hc : names 6 s (.port .port6) := rfl
  rw [exec, execMovRA_of_names hc (by decide)]
  exact advance_of_ne hend

theorem exec_iow6 {s : State} (hend : s.pc ≠ 0x7FFF#15) :
    exec (.iow 6) s = .next { s with p6 := { s.p6 with dir := s.a }, pc := s.pc + 1#15 } :=
  (exec_iow_of_iocWrite (r := 6) hend rfl :)

/-- Settles O56: a pin driven low as one case of a pin change; MOV 6,A and IOW 6 as instructions that let a pin fall. -/
theorem port6EdgesRaiseFlags : Obligations.Port6EdgesRaiseFlags := by
  refine ⟨fun s j hin hdriven => ?driven, occur_pin6_rf, fun s s' u w i hm he hw hi hx => step_edges hm he hw hi hx,
    fun s s' j hm he hend hlow => ⟨fun hw hout hlatch => ?mov, fun hw hhigh hlatch => ?iow⟩⟩
  case driven =>
    have hbefore : level6 s j.val = s.p6.ext.getLsbD j.val := by simp only [level6, hin, hdriven, if_true]
    have hafter : level6 (occur (.pin .port6 j (.driven false)) s) j.val = false := by
      rw [level6_occur_pin]
      simp only [level6, State.setPort, Port.drive, putBit_getLsbD _ _ j.isLt, hin, if_true]
    rw [occur_pin6_rf, hbefore, hafter, Bool.not_false, Bool.and_true]
  case mov =>
    obtain ⟨l, rfl⟩ : ∃ l, s' = s.setAgenda l := ⟨_, eq_setAgenda_of_cpuMoves hm⟩
    refine step_fall j hm he hw rfl (exec_mov6 hend) rfl ?_ ?_
    · simp only [level6, hout, hlatch, Bool.false_eq_true, if_false]
    · have houtput : (s.setAgenda l).p6.dir.getLsbD j.val = false := hout
      simp only [level6, houtput, Bool.false_eq_true, if_false]
      exact hlow
  case iow =>
    obtain ⟨l, rfl⟩ : ∃ l, s' = s.setAgenda l := ⟨_, eq_setAgenda_of_cpuMoves hm⟩
    refine step_fall j hm he hw rfl (exec_iow6 hend) rfl hhigh ?_
    have houtput : (s.setAgenda l).a.getLsbD j.val = false := hlow
    simp only [level6, houtput, Bool.false_eq_true, if_false]
    exact hlatch

end Sys2Proof.Proofs

/-! PROOFS. Memory (spec/20_memory.md): which cell a designator names, what an instruction that writes or reads its
register leaves unchanged (`Stored`), where an access stops, and that no turn changes the ROMs or the parameters
(`RomsKept`). -/

namespace Sys2Proof.Proofs

open Sys2Proof.Machine Sys2Proof.Claims

/-! ## Which cell a designator names -/

theorem effective_toNat (r : Designator) (s : State) :
    (effective r s).toNat = if r = 0#6 then s.r4.toNat % 64 else r.toNat := by
  unfold effective
  split
  · exact BitVec.toNat_setWidth 6 s.r4
  · rfl

theorem bank_toNat (s : State) : (s.r4.extractLsb' 6 2).toNat = s.r4.toNat / 64 := by
  have hlt := s.r4.isLt
  rw [BitVec.extractLsb'_toNat, Nat.shiftRight_eq_div_pow]
  omega

/-- From 0x13 on a designator names a general register (R104). -/
theorem cellOf_gpr {e : Designator} (s : State) (h : 0x13 ≤ e.toNat) :
    cellOf e s = some (.gpr (gprKey s.cfg.bankSplit (s.r4.extractLsb' 6 2) e.toNat)) := by
  unfold cellOf
  split
  case h_20 => rfl
  all_goals omega

/-- A general register's key by its designator's number and the bank R4[7:6] (R104). -/
theorem resolve_gpr {r : Designator} {s : State} {e : Nat} (he : (effective r s).toNat = e) (h : 0x13 ≤ e) :
    resolve r s = .next (.gpr
      (if s.cfg.bankSplit = .r20 ∧ e < 0x20 then e else 64 * (s.r4.toNat / 64) + e)) := by
  subst he
  refine resolve_eq_next.2 ((cellOf_gpr s h).trans ?_)
  rw [← bank_toNat s]
  cases s.cfg.bankSplit with
  | r13 => simp [gprKey]
  | r20 => simp [gprKey]

theorem resolve_of_toNat {r : Designator} {s : State} {e : Nat} (he : (effective r s).toNat = e) {c : Cell}
    (hc : cellOf (BitVec.ofNat 6 e) s = some c) : resolve r s = .next c := by
  subst he
  rw [BitVec.ofNat_toNat, BitVec.setWidth_eq] at hc
  exact resolve_eq_next.2 hc

theorem resolve_zero {r : Designator} {s : State} (h : effective r s = 0#6) :
    resolve r s = .refused .indirectPointerZero := by
  rw [resolve, h]
  rfl

/-- Settles O14: the special registers one by one, the general ones by `resolve_gpr`. -/
theorem designatorsNameCells : Obligations.DesignatorsNameCells := by
  intro r s e bank
  have he : (effective r s).toNat = e := effective_toNat r s
  have special {n : Nat} {c : Cell} (hc : cellOf (BitVec.ofNat 6 n) s = some c) (hn : e = n) :
      resolve r s = .next c := resolve_of_toNat (he.trans hn) hc
  refine ⟨fun h0 => resolve_zero (BitVec.eq_of_toNat_eq (he.trans h0)), special rfl, special rfl, special rfl,
    special rfl, special rfl, special rfl, special rfl, special rfl, special rfl, special rfl, special rfl, special rfl,
    special rfl, special rfl, special rfl, special rfl, special rfl, special rfl, fun hge hsplit => ?family,
    fun hge hlow hsplit => ?common, fun hhigh hsplit => ?banked⟩
  case family =>
    rw [resolve_gpr he hge, if_neg fun h => by simp [hsplit] at h]
  case common =>
    rw [resolve_gpr he hge, if_pos ⟨hsplit, hlow⟩]
  case banked =>
    rw [resolve_gpr he (by omega), if_neg fun h => by omega]

/-! ## Where an access stops -/

/-- Every register instruction first resolves its operand (R105). -/
theorem exec_eq_andThen_resolve {i : Instr} {r : Designator} {b : BitNumber}
    (hi : i ∈ registerDestination r b ++ registerSource r b) (s : State) :
    ∃ k, exec i s = andThen (resolve r s) k := by
  obtain hdest | hsource := List.mem_append.1 hi
  · obtain rfl | hflag | ⟨care, f, hx⟩ | ⟨f, hx⟩ := registerDestination_shape hdest s
    · exact ⟨_, Eq.refl (execMovRA r s)⟩
    · obtain rfl | rfl | ⟨f, hx⟩ := flaggedDestination_shape hflag s
      · exact ⟨_, Eq.refl (execClrR r s)⟩
      · exact ⟨_, Eq.refl (execAddRA r s)⟩
      · exact ⟨_, hx⟩
    · exact ⟨_, hx⟩
    · exact ⟨_, hx⟩
  · obtain ⟨f, hx⟩ | ⟨f, hx⟩ | ⟨wanted, hx⟩ := registerSource_shape hsource s
    · exact ⟨_, hx⟩
    · exact ⟨_, hx⟩
    · exact ⟨_, hx⟩

/-- Settles O43: the operand is resolved first, and pointer 0 names no cell. -/
theorem indirectThroughZeroIsRefused : Obligations.IndirectThroughZeroIsRefused := by
  intro b i s hpointer hi
  have hzero : effective 0#6 s = 0#6 := by
    rw [effective, if_pos rfl, BitVec.setWidth_eq_extractLsb' (by omega), hpointer]
  obtain ⟨k, hk⟩ := exec_eq_andThen_resolve hi s
  rw [hk, resolve_zero hzero, andThen_refused]

section
variable {i : Instr} {r : Designator} {b : BitNumber} {s : State}

theorem readCell_r12_absent (care : Byte) (h : s.cfg.lcdSize.val ≤ s.lcdAddress) :
    readCell care .r12 s = .fault (.lcdCellAbsent s.lcdAddress) := by
  rw [readCell, peekCell, if_neg (by omega), andThen_fault]

theorem writeCell_r12_absent (v : Byte) (h : s.cfg.lcdSize.val ≤ s.lcdAddress) :
    writeCell .r12 v s = .fault (.lcdCellAbsent s.lcdAddress) := by
  rw [writeCell, if_neg (by omega)]

theorem resultToCell_r12_absent (h : s.cfg.lcdSize.val ≤ s.lcdAddress) (f : Byte → Alu) :
    resultToCell .r12 f s = .fault (.lcdCellAbsent s.lcdAddress) := by
  rw [resultToCell, if_neg (by decide), readCell_r12_absent _ h, andThen_fault]

theorem exec_registerSource_absent (hi : i ∈ registerSource r b) (hc : names r s .r12)
    (h : s.cfg.lcdSize.val ≤ s.lcdAddress) : exec i s = .fault (.lcdCellAbsent s.lcdAddress) := by
  obtain ⟨f, hx⟩ | ⟨f, hx⟩ | ⟨wanted, hx⟩ := registerSource_shape hi s
  · rw [hx, resultToA, resolve_of_names hc, andThen_next, readCell_r12_absent _ h, andThen_fault]
  · rw [hx, countToA, resolve_of_names hc, andThen_next, readCell_r12_absent _ h, andThen_fault]
  · rw [hx, skipOnBit, resolve_of_names hc, andThen_next, readCell_r12_absent _ h, andThen_fault]

theorem exec_registerDestination_absent (hi : i ∈ registerDestination r b) (hc : names r s .r12)
    (h : s.cfg.lcdSize.val ≤ s.lcdAddress) : exec i s = .fault (.lcdCellAbsent s.lcdAddress) := by
  obtain rfl | hflag | ⟨care, f, hx⟩ | ⟨f, hx⟩ := registerDestination_shape hi s
  · rw [exec, execMovRA_of_names hc (by decide), writeCell_r12_absent _ h, andThen_fault]
  · obtain rfl | rfl | ⟨f, hx⟩ := flaggedDestination_shape hflag s
    · rw [exec, execClrR_of_names hc (by decide), writeCell_r12_absent _ h, andThen_fault]
    · rw [exec, execAddRA_of_names hc (by decide), resultToCell_r12_absent h]
    · rw [hx, resultToR_of_names hc, resultToCell_r12_absent h]
  · rw [hx, modifyR, resolve_of_names hc, andThen_next, readCell_r12_absent _ h, andThen_fault]
  · rw [hx, countToR, resolve_of_names hc, andThen_next, readCell_r12_absent _ h, andThen_fault]

end

/-- Settles O44: a write of the absent byte faults as a read does, whichever the instruction does first. -/
theorem absentLcdCellFaults : Obligations.AbsentLcdCellFaults := by
  intro r b i s hc habsent hi
  obtain hdest | hsource := List.mem_append.1 hi
  · exact exec_registerDestination_absent hdest hc habsent
  · exact exec_registerSource_absent hsource hc habsent

theorem runNext_of_unknown {s : State} (h : s.mem.romRead s.pc.toNat = none) :
    runNext s = .fault (.romCellUnknown s.pc.toNat) := by
  simp only [runNext, fetch, h, andThen_fault]

/-- Settles O7: the step of a CPU that executes begins with the fetch. -/
theorem unknownProgramCellStops : Obligations.UnknownProgramCellStops := by
  intro s s' hm he hunknown
  have hpc : s'.pc = s.pc := by rw [eq_setAgenda_of_cpuMoves hm, State.setAgenda_pc]
  rw [step_of_executes hm he, runNext_of_unknown ((romRead_of_cpuMoves hm).trans hunknown), hpc]

theorem iocWrite_below {r : IocNumber} (h : r.toNat < 6) (v : Byte) (s : State) :
    iocWrite r v s = .refused .controlRegisterAbsent := by
  unfold iocWrite
  split
  case h_11 => rfl
  all_goals omega

theorem iocRead_below {r : IocNumber} (h : r.toNat < 6) (s : State) :
    iocRead r s = .refused .controlRegisterAbsent := by
  unfold iocRead
  split
  case h_11 => rfl
  all_goals omega

theorem iocWrite_page1 {r : IocNumber} (h : r = 0xD#4 ∨ r = 0xE#4) (v : Byte) {s : State} (hpage : s.iocPage = true) :
    iocWrite r v s = .refused .controlPageAbsent := by
  obtain rfl | rfl := h
  · exact if_pos hpage
  · exact if_pos hpage

theorem iocRead_page1 {r : IocNumber} (h : r = 0xD#4 ∨ r = 0xE#4) {s : State} (hpage : s.iocPage = true) :
    iocRead r s = .refused .controlPageAbsent := by
  obtain rfl | rfl := h
  · exact if_pos hpage
  · exact if_pos hpage

/-- Settles O45: the control register's own refusal is the instruction's. -/
theorem absentControlRegisters : Obligations.AbsentControlRegisters := by
  refine fun r s => ⟨fun hpage hr => ⟨?_, ?_⟩, fun hlow => ⟨?_, ?_⟩⟩
  · rw [exec, execIow, iocWrite_page1 hr _ hpage, andThen_refused]
  · rw [exec, execIor, iocRead_page1 hr hpage, andThen_refused]
  · rw [exec, execIow, iocWrite_below hlow, andThen_refused]
  · rw [exec, execIor, iocRead_below hlow, andThen_refused]

/-! ## The frame of the register instructions -/

/-- From `s` to `t` at most free values were drawn, the cell `c` was written, and R3 and `pc` were set. -/
def Stored (c : Cell) (s t : State) : Prop :=
  ∃ n v w st p, writeCell c v (s.setDraws n) = .next w ∧ t = (w.setStatus st).setPc p

theorem eq_setDraws_of_readCell {care : Byte} {c : Cell} {s u : State} {v : Byte}
    (h : readCell care c s = .next (v, u)) : ∃ n, u = s.setDraws n := ⟨u.draws, readCell_frame h⟩

theorem eq_setPc_of_skipIf {c : Bool} {w t : State} (h : skipIf c w = .next t) : ∃ p, t = w.setPc p := by
  obtain ⟨-, -, rfl⟩ | ⟨-, -, rfl⟩ := skipIf_eq_next.1 h
  · exact ⟨_, rfl⟩
  · exact ⟨_, rfl⟩

section
variable {r : Designator} {c : Cell} {s t : State}

theorem resultToCell_stored {f : Byte → Alu} (h : resultToCell c f s = .next t) : Stored c s t := by
  obtain ⟨-, v, u, w, hu, hw, -, rfl⟩ := resultToCell_eq_next.1 h
  obtain ⟨n, rfl⟩ := eq_setDraws_of_readCell hu
  exact ⟨n, _, w, _, _, hw, rfl⟩

theorem modifyR_stored {care : Cell → Byte} {f : Byte → Byte} (hc : names r s c)
    (h : modifyR r care f s = .next t) : Stored c s t := by
  obtain ⟨d, v, u, w, hd, hu, hw, -, rfl⟩ := modifyR_eq_next.1 h
  obtain rfl := names_unique hc hd
  obtain ⟨n, rfl⟩ := eq_setDraws_of_readCell hu
  exact ⟨n, _, w, w.r3, _, hw, rfl⟩

theorem countToR_stored {f : Byte → Byte} (hc : names r s c) (h : countToR r f s = .next t) : Stored c s t := by
  obtain ⟨d, v, u, w, hd, hu, hw, ht⟩ := countToR_eq_next.1 h
  obtain rfl := names_unique hc hd
  obtain ⟨n, rfl⟩ := eq_setDraws_of_readCell hu
  obtain ⟨p, rfl⟩ := eq_setPc_of_skipIf ht
  exact ⟨n, _, w, w.r3, p, hw, rfl⟩

/-- MOV R,A stores A, without a read before. -/
theorem execMovRA_stored (hc : names r s c) (hpcl : c ≠ .pcl) (h : execMovRA r s = .next t) : Stored c s t := by
  rw [execMovRA_of_names hc hpcl] at h
  obtain ⟨w, hw, ht⟩ := andThen_eq_next.1 h
  obtain ⟨-, rfl⟩ := advance_eq_next.1 ht
  exact ⟨s.draws, s.a, w, w.r3, _, hw, rfl⟩

/-- CLR R stores 0, without a read before. -/
theorem execClrR_stored (hc : names r s c) (hstatus : c ≠ .status) (h : execClrR r s = .next t) : Stored c s t := by
  rw [execClrR_of_names hc hstatus] at h
  obtain ⟨w, hw, ht⟩ := andThen_eq_next.1 h
  obtain ⟨-, rfl⟩ := advance_eq_next.1 ht
  exact ⟨s.draws, 0#8, w, _, _, hw, rfl⟩

/-- The two jumps through R2 set R3 and `pc`; every other completed instruction stores to its cell. -/
theorem registerDestination_stored {i : Instr} {b : BitNumber} (hi : i ∈ registerDestination r b)
    (hc : names r s c) (h : exec i s = .next t) :
    (c = .pcl ∧ ∃ st p, t = (s.setStatus st).setPc p) ∨ Stored c s t := by
  obtain rfl | hflag | ⟨care, f, hx⟩ | ⟨f, hx⟩ := registerDestination_shape hi s
  · obtain ⟨hpcl, rfl⟩ | ⟨hpcl, -⟩ := execMovRA_eq_next h
    · exact .inl ⟨names_unique hc hpcl, s.r3, _, rfl⟩
    · exact .inr (execMovRA_stored hc (fun heq => hpcl (heq ▸ hc)) h)
  · by_cases hstatus : c = .status
    · subst hstatus
      exact nomatch (exec_status_of_flagged hflag hc).symm.trans h
    obtain rfl | rfl | ⟨f, hx⟩ := flaggedDestination_shape hflag s
    · exact .inr (execClrR_stored hc hstatus h)
    · obtain ⟨hpcl, rfl⟩ | ⟨hpcl, -⟩ := execAddRA_eq_next h
      · exact .inl ⟨names_unique hc hpcl, _, _, rfl⟩
      · exact .inr (resultToCell_stored ((execAddRA_of_names hc fun heq => hpcl (heq ▸ hc)).symm.trans h))
    · exact .inr (resultToCell_stored ((hx.trans (resultToR_of_names hc f)).symm.trans h))
  · exact .inr (modifyR_stored hc (hx.symm.trans h))
  · exact .inr (countToR_stored hc (hx.symm.trans h))

/-- A store changes its cell only; beside a byte of memory every other byte reads as before (R106, R109). -/
theorem Stored.onlyCell (h : Stored c s t) : onlyCell c s t := by
  obtain ⟨n, v, w, st, p, hw, rfl⟩ := h
  cases c with
  | pcl => cases hw
  | re => cases hw
  | r12 =>
    simp only [writeCell] at hw
    split at hw <;> cases hw
    exact ⟨rfl, fun k hk => Memory.lcdRead_lcdWrite_ne s.mem hk v⟩
  | gpr key =>
    cases hw
    exact ⟨rfl, fun k hk => Memory.ramRead_ramWrite_ne s.mem hk v⟩
  | port q => cases q <;> (cases hw; rfl)
  | _ => cases hw; rfl

end

/-- Settles O17: through R2 only the jumps complete, and every other cell is stored to. -/
theorem registerDestinationFrame : Obligations.RegisterDestinationFrame := by
  intro r b i c s t hi hc hx
  obtain ⟨rfl, st, p, rfl⟩ | hstored := registerDestination_stored hi hc hx
  · rfl
  · exact hstored.onlyCell

/-- An instruction that only reads its register changes A, R3, `pc` and the count of free values. -/
theorem registerSource_frame {i : Instr} {r : Designator} {b : BitNumber} {s t : State}
    (hi : i ∈ registerSource r b) (h : exec i s = .next t) :
    t = { s with a := t.a, r3 := t.r3, pc := t.pc, draws := t.draws } := by
  obtain ⟨f, hx⟩ | ⟨f, hx⟩ | ⟨wanted, hx⟩ := registerSource_shape hi s
  · obtain ⟨c, v, u, -, hu, -, rfl⟩ := resultToA_eq_next.1 (hx.symm.trans h)
    obtain ⟨n, rfl⟩ := eq_setDraws_of_readCell hu
    rfl
  · obtain ⟨c, v, u, -, hu, ht⟩ := countToA_eq_next.1 (hx.symm.trans h)
    obtain ⟨n, rfl⟩ := eq_setDraws_of_readCell hu
    obtain ⟨p, rfl⟩ := eq_setPc_of_skipIf ht
    rfl
  · obtain ⟨c, v, u, -, hu, ht⟩ := skipOnBit_eq_next.1 (hx.symm.trans h)
    obtain ⟨n, rfl⟩ := eq_setDraws_of_readCell hu
    obtain ⟨p, rfl⟩ := eq_setPc_of_skipIf ht
    rfl

/-! ## What no turn changes -/

/-- The parameters, the program ROM and the data ROM are as before. -/
structure RomsKept (s t : State) : Prop where
  cfg : t.cfg = s.cfg
  rom : t.mem.rom = s.mem.rom
  drom : t.mem.drom = s.mem.drom

theorem RomsKept.refl (s : State) : RomsKept s s := ⟨rfl, rfl, rfl⟩

theorem RomsKept.trans {s t u : State} (h : RomsKept s t) (k : RomsKept t u) : RomsKept s u :=
  ⟨k.cfg.trans h.cfg, k.rom.trans h.rom, k.drom.trans h.drom⟩

theorem RomsKept.romRead {s t : State} (h : RomsKept s t) (k : Nat) : t.mem.romRead k = s.mem.romRead k := by
  rw [Memory.romRead, Memory.romRead, h.rom]

theorem RomsKept.dromRead {s t : State} (h : RomsKept s t) (k : Nat) : t.mem.dromRead k = s.mem.dromRead k := by
  rw [Memory.dromRead, Memory.dromRead, h.drom]

theorem RomsKept.setAgenda (s : State) (l : List Turn) : RomsKept s (s.setAgenda l) := ⟨rfl, rfl, rfl⟩

theorem RomsKept.beginStep (s : State) : RomsKept s s.beginStep := ⟨rfl, rfl, rfl⟩

theorem RomsKept.raise (s : State) (f : BitVec 7) : RomsKept s (s.raise f) := ⟨rfl, rfl, rfl⟩

theorem RomsKept.advance {s w t : State} (h : RomsKept s w) (ht : Machine.advance w = .next t) : RomsKept s t := by
  obtain ⟨-, rfl⟩ := advance_eq_next.1 ht
  exact h.trans ⟨rfl, rfl, rfl⟩

theorem RomsKept.writeCont (s : State) (v : Byte) : RomsKept s (s.writeCont v) := by
  unfold State.writeCont
  split <;> exact ⟨rfl, rfl, rfl⟩

theorem RomsKept.iocWrite {s w : State} {r : IocNumber} {v : Byte} (hw : Machine.iocWrite r v s = .next w) :
    RomsKept s w := by
  rw [iocWrite_keeps hw]
  exact ⟨rfl, rfl, rfl⟩

theorem literalToA_romsKept {x : Alu} {s t : State} (h : literalToA x s = .next t) : RomsKept s t := by
  obtain ⟨-, rfl⟩ := literalToA_eq_next.1 h
  exact ⟨rfl, rfl, rfl⟩

/-! ### Instructions -/

theorem RomsKept.of_onlyCell {c : Cell} {s t : State} (h : onlyCell c s t) : RomsKept s t := by
  cases c with
  | re => cases h
  | r12 | gpr key =>
    obtain ⟨hframe, -⟩ := h
    rw [hframe]
    exact ⟨rfl, rfl, rfl⟩
  | port p =>
    cases p <;> (rw [show t = _ from h]; exact ⟨rfl, rfl, rfl⟩)
  | _ =>
    rw [show t = _ from h]
    exact ⟨rfl, rfl, rfl⟩

theorem registerDestination_romsKept {i : Instr} {r : Designator} {b : BitNumber} {s t : State}
    (hi : i ∈ registerDestination r b) (h : exec i s = .next t) : RomsKept s t := by
  obtain ⟨k, hk⟩ := exec_eq_andThen_resolve (List.mem_append_left _ hi) s
  obtain ⟨c, hc, -⟩ := andThen_eq_next.1 (hk.symm.trans h)
  exact .of_onlyCell (registerDestinationFrame r b i c s t hi (resolve_eq_next.1 hc) h)

theorem registerSource_romsKept {i : Instr} {r : Designator} {b : BitNumber} {s t : State}
    (hi : i ∈ registerSource r b) (h : exec i s = .next t) : RomsKept s t := by
  rw [registerSource_frame hi h]
  exact ⟨rfl, rfl, rfl⟩

/-- No instruction writes the program ROM, the data ROM or a parameter (R101, R108, R121). -/
theorem exec_romsKept {i : Instr} {s t : State} (h : exec i s = .next t) : RomsKept s t := by
  cases i with
  | movRA r | clrR r | subRA r | decR r | orRA r | andRA r | xorRA r | addRA r | movRR r | comR r | incR r | djzR r
  | rrcR r | rlcR r | swapR r | jzR r =>
    exact registerDestination_romsKept (r := r) (b := 0#3) (by simp [registerDestination]) h
  | bc r b | bs r b => exact registerDestination_romsKept (r := r) (b := b) (by simp [registerDestination]) h
  | subAR r | decaR r | orAR r | andAR r | xorAR r | addAR r | movAR r | comaR r | incaR r | djzaR r | rrcaR r
  | rlcaR r | swapaR r | jzaR r =>
    exact registerSource_romsKept (r := r) (b := 0#3) (by simp [registerSource]) h
  | jbc r b | jbs r b => exact registerSource_romsKept (r := r) (b := b) (by simp [registerSource]) h
  | daa | clra | movAK k | orAK k | andAK k | xorAK k | subAK k | addAK k => exact literalToA_romsKept h
  | jmp k | tbl =>
    obtain rfl := exec_effect h
    exact ⟨rfl, rfl, rfl⟩
  | call k | int =>
    obtain ⟨-, -, rfl⟩ := exec_effect h
    exact ⟨rfl, rfl, rfl⟩
  | ret | retl k | reti =>
    obtain ⟨v, rest, -, rfl⟩ := exec_effect h
    exact ⟨rfl, rfl, rfl⟩
  | eni | disi | slep =>
    obtain ⟨-, rfl⟩ := exec_effect h
    exact ⟨rfl, rfl, rfl⟩
  | nop => exact (RomsKept.refl s).advance h
  | contw => exact (RomsKept.writeCont s s.a).advance h
  | contr | wdtc | page k =>
    obtain ⟨-, rfl⟩ := advance_eq_next.1 h
    exact ⟨rfl, rfl, rfl⟩
  | iow r =>
    obtain ⟨w, hw, ht⟩ := andThen_eq_next.1 h
    exact (RomsKept.iocWrite hw).advance ht
  | ior r =>
    obtain ⟨v, -, ht⟩ := andThen_eq_next.1 h
    obtain ⟨-, rfl⟩ := advance_eq_next.1 ht
    exact ⟨rfl, rfl, rfl⟩

/-! ### Events -/

theorem tccCount_romsKept (s : State) : RomsKept s s.tccCount := by
  unfold State.tccCount State.tccOverflow
  split
  · dsimp only
    split <;> exact ⟨rfl, rfl, rfl⟩
  · exact ⟨rfl, rfl, rfl⟩

theorem tccTick_romsKept (s : State) : RomsKept s s.tccTick := by
  have hpre : RomsKept s (s.setPre (s.pre + 1#8)) := ⟨rfl, rfl, rfl⟩
  unfold State.tccTick
  split
  · exact tccCount_romsKept s
  · dsimp only
    split
    · exact hpre.trans (tccCount_romsKept _)
    · exact hpre

theorem counter1Tick_romsKept (s : State) : RomsKept s s.counter1Tick := by
  unfold State.counter1Tick
  dsimp only
  split
  · split <;> exact ⟨rfl, rfl, rfl⟩
  · exact ⟨rfl, rfl, rfl⟩

theorem counter2Tick_romsKept (s : State) : RomsKept s s.counter2Tick := by
  unfold State.counter2Tick
  split <;> exact ⟨rfl, rfl, rfl⟩

theorem pinChange_romsKept (s : State) (p : PortId) (i : Fin 8) (d : PinDrive) : RomsKept s (s.pinChange p i d) := by
  rw [State.pinChange_keeps]
  cases p <;> exact ⟨rfl, rfl, rfl⟩

theorem supplyChange_romsKept (s : State) (v : Supply) : RomsKept s (s.supplyChange v) := by
  cases v <;> exact ⟨rfl, rfl, rfl⟩

/-- A reset event forgets the RAM and the LCD RAM only (R86, R403). -/
theorem resetEvent_romsKept (c : ResetCause) (s : State) : RomsKept s (resetEvent c s) := ⟨rfl, rfl, rfl⟩

theorem watchdogTimeout_romsKept (s : State) : RomsKept s s.watchdogTimeout := by
  unfold State.watchdogTimeout
  split
  · exact resetEvent_romsKept .watchdog s
  · exact ⟨rfl, rfl, rfl⟩

theorem resetPinChange_romsKept (s : State) (low : Bool) : RomsKept s (s.resetPinChange low) := by
  unfold State.resetPinChange
  split
  · split
    · exact .refl s
    · exact ⟨rfl, rfl, rfl⟩
  · exact ⟨rfl, rfl, rfl⟩

/-- A guarded event keeps what the event keeps. -/
theorem RomsKept.guarded {s t : State} {p : Prop} [Decidable p] (h : RomsKept s t) :
    RomsKept s (if p then t else s) := by
  split
  · exact h
  · exact .refl s

theorem occur_romsKept (e : Event) (s : State) : RomsKept s (occur e s) := by
  cases e with
  | tccTick => exact (tccTick_romsKept s).guarded
  | watchdog => exact (watchdogTimeout_romsKept s).guarded
  | counter1Tick => exact (counter1Tick_romsKept s).guarded
  | counter2Tick => exact (counter2Tick_romsKept s).guarded
  | pin p i d => exact pinChange_romsKept s p i d
  | supply v => exact supplyChange_romsKept s v
  | supplyReset c => exact (resetEvent_romsKept .supply s).guarded
  | resetPin low => exact resetPinChange_romsKept s low

/-! ### Turns -/

theorem cpuTurn_romsKept {s t : State} (h : cpuTurn s = .next t) : RomsKept s t := by
  obtain ⟨-, hturn⟩ | ⟨-, -, hturn⟩ | ⟨-, -, -, hturn⟩ | ⟨-, -, -, hturn⟩ := cpuTurn_cases s
  case inl =>
    obtain rfl := Host.Outcome.next.inj (hturn.symm.trans h)
    exact .refl s
  case inr.inl =>
    obtain rfl := Host.Outcome.next.inj (hturn.symm.trans h)
    exact ⟨rfl, rfl, rfl⟩
  case inr.inr.inl =>
    obtain ⟨-, rfl⟩ := interruptEntry_eq_next.1 (hturn.symm.trans h)
    exact ⟨rfl, rfl, rfl⟩
  case inr.inr.inr =>
    obtain ⟨w, i, u, -, -, hu, rfl⟩ := runNext_eq_next.1 (hturn.symm.trans h)
    exact ((RomsKept.beginStep s).trans (exec_romsKept hu)).trans (.raise u _)

/-- A step is a turn of the CPU or an event, and neither touches the ROMs or the parameters. -/
theorem step_romsKept {s t : State} (h : step s = .next t) : RomsKept s t := by
  obtain ⟨-, hturn⟩ | ⟨rest, -, hturn⟩ | ⟨e, rest, -, hturn⟩ := takeTurn_cases s
  · exact cpuTurn_romsKept (hturn.symm.trans h)
  · exact (RomsKept.setAgenda s rest).trans (cpuTurn_romsKept (hturn.symm.trans h))
  · obtain rfl := Host.Outcome.next.inj (hturn.symm.trans h)
    exact (RomsKept.setAgenda s rest).trans (occur_romsKept e _)

/-- Settles O12: what a program cell reads as depends on the listed program ROM alone. -/
theorem programIsNeverWritten : Obligations.ProgramIsNeverWritten :=
  fun _ _ hstep => (step_romsKept hstep).romRead

/-- Settles O13: what a data ROM byte reads as depends on the listed data ROM alone. -/
theorem dataRomAndParametersAreFixed : Obligations.DataRomAndParametersAreFixed := fun _ _ hstep =>
  ⟨(step_romsKept hstep).cfg, (step_romsKept hstep).dromRead⟩

end Sys2Proof.Proofs

/-! PROOFS. The encoding (spec/30_encoding.md): what a word built of a row's base and its field holds, which part of the
decoder reads which words, and from these that decoder and encoder are inverse and which words are unassigned. -/

namespace Sys2Proof.Proofs

open Sys2Proof.Machine Sys2Proof.Claims

/-! ## Fields of a word -/

/-- A slice of a word, as division and remainder of the word's number. -/
theorem toNat_slice (w : Word) (lo len : Nat) : (w.extractLsb' lo len).toNat = w.toNat / 2 ^ lo % 2 ^ len := by
  rw [BitVec.extractLsb'_toNat, Nat.shiftRight_eq_div_pow]

/-- A field below a base whose low bits are free is added to it. -/
theorem toNat_or_field {n : Nat} {base : Word} (hn : n ≤ 13) (hbase : 2 ^ n ∣ base.toNat) (f : BitVec n) :
    (base ||| f.setWidth 13).toNat = base.toNat + f.toNat := by
  obtain ⟨q, hq⟩ := hbase
  rw [BitVec.toNat_or, BitVec.toNat_setWidth_of_le hn, hq, Nat.two_pow_add_eq_or_of_lt f.isLt]

/-- The field reads back. -/
theorem low_or_field {n : Nat} {base : Word} (hn : n ≤ 13) (hbase : 2 ^ n ∣ base.toNat) (f : BitVec n) :
    (base ||| f.setWidth 13).extractLsb' 0 n = f := by
  apply BitVec.eq_of_toNat_eq
  rw [toNat_slice, toNat_or_field hn hbase, pow_zero, Nat.div_one, Nat.add_mod, Nat.mod_eq_zero_of_dvd hbase, zero_add,
    Nat.mod_mod, Nat.mod_eq_of_lt f.isLt]

/-- The bits above the field are the base's. -/
theorem high_or_field {n lo len : Nat} (hlo : n ≤ lo) (base : Word) (f : BitVec n) :
    (base ||| f.setWidth 13).extractLsb' lo len = base.extractLsb' lo len := by
  have hzero : (f.setWidth 13).extractLsb' lo len = 0#len := by
    apply BitVec.eq_of_getLsbD_eq
    intro i hi
    have hoff : f.getLsbD (lo + i) = false := BitVec.getLsbD_of_ge f (lo + i) (by omega)
    simp [hoff]
  rw [BitVec.extractLsb'_or, hzero, BitVec.or_zero]

/-- A word is its row's base with the word's own low bits as the field. -/
theorem base_or_low_eq {n : Nat} {base w : Word} (hn : n ≤ 13) (h : base.toNat = 2 ^ n * (w.toNat / 2 ^ n)) :
    base ||| (w.extractLsb' 0 n).setWidth 13 = w := by
  apply BitVec.eq_of_toNat_eq
  rw [toNat_or_field hn ⟨_, h⟩, toNat_slice, h, pow_zero, Nat.div_one, Nat.div_add_mod]

/-- The two fields of format B are one field of nine bits (R145). -/
theorem or_bit_designator (base : Word) (b : BitNumber) (r : Designator) :
    base ||| b.setWidth 13 <<< 6 ||| r.setWidth 13 = base ||| (b ++ r).setWidth 13 := by
  rw [BitVec.or_assoc, BitVec.setWidth_append_eq_shiftLeft_setWidth_or]

theorem fieldB_append_fieldR (w : Word) : fieldB w ++ fieldR w = w.extractLsb' 0 9 :=
  BitVec.extractLsb'_append_extractLsb'_eq_extractLsb' (by rfl)

theorem fields_eq_of_low {w : Word} {b : BitNumber} {r : Designator} (h : w.extractLsb' 0 9 = b ++ r) :
    fieldB w = b ∧ fieldR w = r := by
  rw [← fieldB_append_fieldR] at h
  constructor
  · rw [← BitVec.extractLsb'_append_eq_left (a := fieldB w) (b := fieldR w), h, BitVec.extractLsb'_append_eq_left]
  · rw [← BitVec.extractLsb'_append_eq_right (a := fieldB w) (b := fieldR w), h, BitVec.extractLsb'_append_eq_right]

/-! ## The fixed words -/

/-- The words of format Z, which have no field (R142). -/
def fixedWords : List Nat :=
  [0x0000, 0x0001, 0x0002, 0x0003, 0x0004, 0x0010, 0x0011, 0x0012, 0x0013, 0x0014, 0x0020, 0x0080, 0x1E01]

theorem mem_fixedWords {n : Nat} : n ∈ fixedWords ↔
    n = 0x0000 ∨ n = 0x0001 ∨ n = 0x0002 ∨ n = 0x0003 ∨ n = 0x0004 ∨ n = 0x0010 ∨ n = 0x0011 ∨ n = 0x0012 ∨ n = 0x0013 ∨
      n = 0x0014 ∨ n = 0x0020 ∨ n = 0x0080 ∨ n = 0x1E01 := by
  simp only [fixedWords, List.mem_cons, List.not_mem_nil, or_false]

theorem decodeFixed_eq_none_iff {w : Word} : decodeFixed w = none ↔ w.toNat ∉ fixedWords := by
  rw [mem_fixedWords]
  unfold decodeFixed
  split
  case h_14 => simp_all only [imp_false, or_self, not_false_eq_true]
  all_goals simp [*]

theorem decode_of_fixed {w : Word} {i : Instr} (h : decodeFixed w = some i) : decode w = .instr i := by
  simp [decode, h]

theorem decode_of_notFixed {w : Word} (h : w.toNat ∉ fixedWords) : decode w = decodeFields w := by
  simp [decode, decodeFixed_eq_none_iff.2 h]

/-- A row none of whose words is fixed is read by its fields. -/
theorem decode_or_field {n : Nat} {base : Word} (hn : n ≤ 13) (hbase : 2 ^ n ∣ base.toNat)
    (hfixed : ∀ x ∈ fixedWords, x < base.toNat ∨ base.toNat + 2 ^ n ≤ x) (f : BitVec n) :
    decode (base ||| f.setWidth 13) = decodeFields (base ||| f.setWidth 13) := by
  apply decode_of_notFixed
  intro hmem
  have hrow := hfixed _ hmem
  have hlt := f.isLt
  rw [toNat_or_field hn hbase] at hrow
  omega

/-! ## Decode of encode -/

/-- Format C shares its words with format Z, which has those with `r` below 6 (R143, R151). -/
theorem decode_eq_decodeC {w : Word} (hlt : w.toNat < 32) (hr : iocExists (fieldLow4 w) = true) :
    decode w = decodeC w := by
  have hge : 6 ≤ w.toNat % 2 ^ 4 := by
    simpa only [iocExists, decide_eq_true_eq, fieldLow4, toNat_slice, pow_zero, Nat.div_one] using hr
  have hfixed : w.toNat ∉ fixedWords := by
    rw [mem_fixedWords]
    omega
  have hlead : (w.extractLsb' 9 4).toNat = 0 := by rw [toNat_slice]; omega
  have hop : (w.extractLsb' 6 7).toNat = 0 := by rw [toNat_slice]; omega
  simp only [decode_of_notFixed hfixed, decodeFields, hlead, decodeR, hop]

theorem decode_or_ioc {base : Word} {r : IocNumber} (hbase : base.toNat = 0 ∨ base.toNat = 16)
    (hr : iocExists r = true) : decode (base ||| r.setWidth 13) =
      if base.toNat = 0 then .instr (.iow r) else .instr (.ior r) := by
  have hdvd : 2 ^ 4 ∣ base.toNat := by omega
  have hw := toNat_or_field (by decide) hdvd r
  have hlow : fieldLow4 (base ||| r.setWidth 13) = r := low_or_field (by decide) hdvd r
  have hop := toNat_slice base 4 2
  rw [decode_eq_decodeC (by omega) (hlow.symm ▸ hr), decodeC, hlow, hr, high_or_field (by decide), hop]
  obtain hz | hz := hbase
  · simp [hz]
  · simp [hz]

/-- The two fields of format B read back (R145). -/
theorem fields_or_bit_designator {base : Word} (hbase : 2 ^ 9 ∣ base.toNat) (b : BitNumber) (r : Designator) :
    fieldB (base ||| (b ++ r).setWidth 13) = b ∧ fieldR (base ||| (b ++ r).setWidth 13) = r :=
  fields_eq_of_low (low_or_field (by decide) hbase (b ++ r))

/-- The operation of format K10 has its lowest bit at bit 10, one above the lowest that `decodeFields` reads (R146). -/
theorem leading_or_target {base : Word} (hbase : 2 ^ 10 ∣ base.toNat) (k : BitVec 10) :
    ((base ||| k.setWidth 13).extractLsb' 9 4).toNat = 2 * (base.toNat / 2 ^ 10) ∨
    ((base ||| k.setWidth 13).extractLsb' 9 4).toNat = 2 * (base.toNat / 2 ^ 10) + 1 := by
  have hw := toNat_or_field (by decide) hbase k
  have hlt := (base ||| k.setWidth 13).isLt
  rw [toNat_slice]
  omega

/-- Settles O1, row by row in the formats of R142 to R148: a fixed word is read as itself, and any other row's fixed bits
lead the decoder to it, whose fields then read back. -/
theorem decodeOfEncode : Obligations.DecodeOfEncode := by
  intro i hwf
  cases i with
  | nop | daa | contw | slep | wdtc | eni | disi | ret | reti | contr | tbl | clra | int => exact decode_of_fixed rfl
  | iow r => exact decode_or_ioc (.inl rfl) hwf
  | ior r => exact decode_or_ioc (.inr rfl) hwf
  | movRA r | clrR r | subAR r | subRA r | decaR r | decR r | orAR r | orRA r | andAR r | andRA r | xorAR r | xorRA r
  | addAR r | addRA r | movAR r | movRR r | comaR r | comR r | incaR r | incR r | djzaR r | djzR r | rrcaR r | rrcR r
  | rlcaR r | rlcR r | swapaR r | swapR r | jzaR r | jzR r =>
    rw [encode, decode_or_field (by decide) (by decide) (by decide)]
    simp [decodeFields, decodeR, fieldR, high_or_field, low_or_field]
  | bc r b | bs r b | jbc r b | jbs r b =>
    rw [encode, or_bit_designator, decode_or_field (by decide) (by decide) (by decide)]
    simp [decodeFields, high_or_field, fields_or_bit_designator]
  | call k =>
    rw [encode, decode_or_field (by decide) (by decide) (by decide)]
    obtain h | h := leading_or_target (base := 0x1000#13) (by decide) k
    · simp [decodeFields, h, fieldK10, low_or_field]
    · simp [decodeFields, h, fieldK10, low_or_field]
  | jmp k =>
    rw [encode, decode_or_field (by decide) (by decide) (by decide)]
    obtain h | h := leading_or_target (base := 0x1400#13) (by decide) k
    · simp [decodeFields, h, fieldK10, low_or_field]
    · simp [decodeFields, h, fieldK10, low_or_field]
  | movAK k | orAK k | andAK k | xorAK k | retl k | subAK k | addAK k =>
    rw [encode, decode_or_field (by decide) (by decide) (by decide)]
    simp [decodeFields, decodeK8, fieldK8, high_or_field, low_or_field]
  | page k =>
    rw [encode, decode_or_field (by decide) (by decide) (by decide)]
    simp [decodeFields, decodeK8, fieldLow4, high_or_field, low_or_field]

/-- Settles O4: each written word is the encoding of its instruction. -/
theorem writtenWordsDecode : Obligations.WrittenWordsDecode :=
  ⟨decodeOfEncode .nop rfl, decodeOfEncode .reti rfl, decodeOfEncode (.iow 6) rfl, decodeOfEncode (.ior 15) rfl,
    decodeOfEncode (.movRA 0x20) rfl, decodeOfEncode (.jzR 0x3F) rfl, decodeOfEncode (.bs 3 6) rfl,
    decodeOfEncode (.jbs 0x3F 7) rfl, decodeOfEncode (.call 0x3FF) rfl, decodeOfEncode (.jmp 5) rfl,
    decodeOfEncode (.subAK 0xFF) rfl, decodeOfEncode (.page 15) rfl⟩

/-! ## Encode of decode, and the unassigned words -/

/-- The words that no row of the opcode map matches, as R152 lists them. -/
def Unlisted (w : Word) : Prop :=
  w = 0x0005#13 ∨ w = 0x0015#13 ∨ (0x0021 ≤ w.toNat ∧ w.toNat ≤ 0x003F) ∨ (0x0081 ≤ w.toNat ∧ w.toNat ≤ 0x00BF) ∨
    w = 0x1E00#13 ∨ (0x1E02 ≤ w.toNat ∧ w.toNat ≤ 0x1E7F) ∨ (0x1E90 ≤ w.toNat ∧ w.toNat ≤ 0x1EFF)

theorem unlisted_iff_toNat {w : Word} : Unlisted w ↔
    w.toNat = 0x0005 ∨ w.toNat = 0x0015 ∨ (0x0021 ≤ w.toNat ∧ w.toNat ≤ 0x003F) ∨
      (0x0081 ≤ w.toNat ∧ w.toNat ≤ 0x00BF) ∨ w.toNat = 0x1E00 ∨ (0x1E02 ≤ w.toNat ∧ w.toNat ≤ 0x1E7F) ∨
      (0x1E90 ≤ w.toNat ∧ w.toNat ≤ 0x1EFF) := by
  simp only [Unlisted, ← BitVec.toNat_inj, BitVec.toNat_ofNat]

/-- `d` is what R150 to R152 make of the word `w`: the well-formed instruction it encodes, or nothing if it is listed. -/
inductive Reads (w : Word) : Decoded → Prop where
  | instr {i : Instr} (hwf : i.wellFormed = true) (henc : encode i = w) (hrow : ¬ Unlisted w) : Reads w (.instr i)
  | unassigned (h : Unlisted w) : Reads w (.unassigned w)

/-- A row's word is read as the row with the word's low bits as the field. -/
theorem Reads.row {n : Nat} {base w : Word} {i : Instr} (hi : encode i = base ||| (w.extractLsb' 0 n).setWidth 13)
    (hwf : i.wellFormed = true) (hn : n ≤ 13) (hbase : base.toNat = 2 ^ n * (w.toNat / 2 ^ n)) (hrow : ¬ Unlisted w) :
    Reads w (.instr i) :=
  .instr hwf (hi.trans (base_or_low_eq hn hbase)) hrow

theorem decodeFixed_reads {w : Word} {i : Instr} (h : decodeFixed w = some i) : Reads w (.instr i) := by
  unfold decodeFixed at h
  split at h
  case h_14 => cases h
  all_goals
    next hw =>
    obtain rfl := Option.some.inj h
    exact .instr rfl (BitVec.eq_of_toNat_eq hw.symm) (by rw [unlisted_iff_toNat, hw]; decide)

theorem decodeC_reads {w : Word} (hlt : w.toNat < 0x40) (hfixed : w.toNat ∉ fixedWords) : Reads w (decodeC w) := by
  have hr : (fieldLow4 w).toNat = w.toNat / 2 ^ 0 % 2 ^ 4 := toNat_slice w 0 4
  have hop := toNat_slice w 4 2
  rw [mem_fixedWords] at hfixed
  unfold decodeC
  split
  case h_1 hge hs =>
    have hge' : 6 ≤ (fieldLow4 w).toNat := of_decide_eq_true hge
    exact .row rfl hge (by decide) (by bv_omega) (mt unlisted_iff_toNat.1 (by omega))
  case h_2 hge hs =>
    have hge' : 6 ≤ (fieldLow4 w).toNat := of_decide_eq_true hge
    exact .row rfl hge (by decide) (by bv_omega) (mt unlisted_iff_toNat.1 (by omega))
  case h_3 hiow hior =>
    simp only [iocExists, decide_eq_true_eq, imp_false] at hiow hior
    exact .unassigned (unlisted_iff_toNat.2 (by omega))

theorem decodeR_reads {w : Word} (hlt : w.toNat < 0x800) (hfixed : w.toNat ∉ fixedWords) : Reads w (decodeR w) := by
  have hop := toNat_slice w 6 7
  unfold decodeR
  split
  case h_1 hs => exact decodeC_reads (by omega) hfixed
  case h_32 =>
    simp only [mem_fixedWords, imp_false] at *
    exact .unassigned (unlisted_iff_toNat.2 (by omega))
  all_goals
    next hs => exact .row rfl rfl (by decide) (by bv_omega) (mt unlisted_iff_toNat.1 (by omega))

theorem decodeK8_reads {w : Word} (hge : 0x1800 ≤ w.toNat) (hfixed : w.toNat ∉ fixedWords) : Reads w (decodeK8 w) := by
  have hlt := w.isLt
  have hop := toNat_slice w 8 3
  have hk4 := toNat_slice w 4 4
  rw [mem_fixedWords] at hfixed
  unfold decodeK8
  split
  case h_7 hs =>
    split
    · next hpage => exact .row rfl rfl (by decide) (by bv_omega) (mt unlisted_iff_toNat.1 (by omega))
    · exact .unassigned (unlisted_iff_toNat.2 (by omega))
  case h_8 =>
    simp only [imp_false] at *
    exact .row rfl rfl (by decide) (by bv_omega) (mt unlisted_iff_toNat.1 (by omega))
  all_goals
    next hs => exact .row rfl rfl (by decide) (by bv_omega) (mt unlisted_iff_toNat.1 (by omega))

theorem base_or_fieldsB_eq (base w : Word) : base ||| (fieldB w).setWidth 13 <<< 6 ||| (fieldR w).setWidth 13 =
    base ||| (w.extractLsb' 0 9).setWidth 13 := by
  rw [or_bit_designator, fieldB_append_fieldR]

theorem decodeFields_reads {w : Word} (hfixed : w.toNat ∉ fixedWords) : Reads w (decodeFields w) := by
  have hlt := w.isLt
  have hop := toNat_slice w 9 4
  unfold decodeFields
  split
  case h_1 | h_2 | h_3 | h_4 =>
    exact .row (base_or_fieldsB_eq _ w) rfl (by decide) (by bv_omega) (mt unlisted_iff_toNat.1 (by omega))
  case h_5 | h_6 | h_7 | h_8 =>
    exact .row rfl rfl (by decide) (by bv_omega) (mt unlisted_iff_toNat.1 (by omega))
  case h_13 =>
    simp only [imp_false] at *
    exact decodeK8_reads (by omega) hfixed
  all_goals
    next hs => exact decodeR_reads (by omega) hfixed

/-- The decoder says of every word what the opcode map and R152's list say of it. -/
theorem decode_reads (w : Word) : Reads w (decode w) := by
  unfold decode
  split
  · next i hi => exact decodeFixed_reads hi
  · next hnone => exact decodeFields_reads (decodeFixed_eq_none_iff.1 hnone)

/-- Settles O2: a word that reads as an instruction is that instruction's encoding. -/
theorem encodeOfDecode : Obligations.EncodeOfDecode := by
  intro w i hi
  have hreads := decode_reads w
  rw [hi] at hreads
  cases hreads with
  | instr hwf henc _ => exact ⟨hwf, henc⟩

theorem decode_eq_unassigned_iff (w : Word) : decode w = .unassigned w ↔ Unlisted w := by
  have hreads := decode_reads w
  constructor
  · intro h
    rw [h] at hreads
    cases hreads with
    | unassigned hw => exact hw
  · intro h
    generalize decode w = d at hreads
    cases hreads with
    | instr _ _ hrow => exact absurd h hrow
    | unassigned _ => rfl

theorem runNext_of_unassigned {s : State} {w : Word} (hw : s.mem.romRead s.pc.toNat = some w)
    (hd : decode w = .unassigned w) : runNext s = .refused (.unassignedWord w) := by
  simp [runNext, fetch_eq_next.2 hw, hd]

/-- Settles O3: the step of a CPU that executes begins with fetch and decode. -/
theorem unassignedWordsAreRefused : Obligations.UnassignedWordsAreRefused := by
  refine ⟨decode_eq_unassigned_iff, fun s s' w hm he hw hd => ?_⟩
  rw [step_of_executes hm he, runNext_of_unassigned ((romRead_of_cpuMoves hm).trans hw) hd]

end Sys2Proof.Proofs

/-! PROOFS. The system instructions (spec/40_system.md): INT as a push and a jump, the instructions that write one
register and go on, and T, P and the watchdog under SLEP and WDTC. -/

namespace Sys2Proof.Proofs

open Sys2Proof.Machine Sys2Proof.Claims

/-! ## INT -/

theorem pushNext_of_room {s : State} (h : s.pc ≠ 0x7FFF#15) (hroom : s.stack.length < 8) :
    pushNext s = .next (s.setStack (s.nextPc :: s.stack)) :=
  pushNext_eq_next.2 ⟨h, hroom, rfl⟩

/-- Settles O30: INT is `pushNext` followed by the jump, so it stops where the push does. -/
theorem softwareInterrupt : Obligations.SoftwareInterrupt := by
  refine ⟨decodeOfEncode .int rfl, fun s hend => ⟨fun hroom => ?room, fun hfull => ?full⟩⟩
  case room =>
    rw [exec, execInt, pushNext_of_room hend hroom, andThen_next]
    rfl
  case full => rw [exec, execInt, pushNext_full hend hfull, andThen_refused]

/-! ## PAGE -/

/-- PAGE keeps bit 4 of the page register and writes the four bits below it (R190). -/
theorem highBit_append_eq (r5 : BitVec 5) (k : BitVec 4) :
    r5.extractLsb' 4 1 ++ k = BitVec.ofNat 5 (16 * (r5.toNat / 16) + k.toNat) := by
  have hr5 := r5.isLt
  have hk := k.isLt
  refine BitVec.eq_of_toNat_eq ?_
  rw [toNat_append_eq, BitVec.toNat_ofNat, BitVec.extractLsb'_toNat, Nat.shiftRight_eq_div_pow]
  omega

/-- Settles O35: each of the four writes its own register, if any, and goes on to the next word. -/
theorem nopEniDisiPage : Obligations.NopEniDisiPage := by
  intro k s hend
  refine ⟨decodeOfEncode .nop rfl, decodeOfEncode (.page k) rfl, advance_of_ne hend,
    advance_of_ne (s := s.setIe true) hend, advance_of_ne (s := s.setIe false) hend, ?page⟩
  rw [← highBit_append_eq]
  exact advance_of_ne (s := s.setPage _) hend

/-! ## SLEP and WDTC -/

theorem tpStatus_getLsbD (t p : Bool) (r3 : Byte) {j : Nat} (hj : j < 8) :
    (tpStatus t p r3).getLsbD j = if j = 4 then t else if j = 3 then p else r3.getLsbD j := by
  have hkept : ∀ j < 8, (0xE7#8).getLsbD j = (!decide (j = 4) && !decide (j = 3)) := by decide
  have ht : ∀ j < 8, ∀ b : Bool, (if b then 0x10#8 else 0#8).getLsbD j = (decide (j = 4) && b) := by decide
  have hp : ∀ j < 8, ∀ b : Bool, (if b then 0x08#8 else 0#8).getLsbD j = (decide (j = 3) && b) := by decide
  rw [tpStatus, BitVec.getLsbD_or, BitVec.getLsbD_or, BitVec.getLsbD_and, hkept j hj, ht j hj, hp j hj]
  by_cases h4 : j = 4
  · simp [h4]
  · by_cases h3 : j = 3 <;> simp [h4, h3]

/-- The model's R3 with T and P set is the statements' own (R35). -/
theorem statusTP_eq_tpStatus (t p : Bool) (r3 : Byte) : statusTP t p r3 = tpStatus t p r3 :=
  BitVec.eq_of_getLsbD_eq fun _ hj => (statusTP_getLsbD t p r3 hj).trans (tpStatus_getLsbD t p r3 hj).symm

/-- Settles O37: both go on from the cleared watchdog with T and P set, and SLEP then goes idle. -/
theorem slepAndWdtc : Obligations.SlepAndWdtc := by
  intro s hend
  have hadvance (p : Bool) := advance_of_ne (s := s.clearWdt.setStatus (statusTP true p s.r3)) hend
  rw [← statusTP_eq_tpStatus, ← statusTP_eq_tpStatus]
  refine ⟨?slep, hadvance true⟩
  rw [exec, execSlep, hadvance false, andThen_next]
  rfl

end Sys2Proof.Proofs

/-! PROOFS. The moves, the logic and the rotates (spec/41_move.md, 42_arith_logic.md, 43_rotate_bit.md): R3 by the flag
that a result writes, the rotates' values, and what an instruction of each shape (a literal, a result to A, a result to the
register) leaves where it completes. -/

namespace Sys2Proof.Proofs

open Sys2Proof.Machine Sys2Proof.Claims

/-! ## Flags -/

theorem putBit_two_eq_zStatus (v r3 : Byte) : putBit 2 (isZero v) r3 = zStatus v r3 := by
  by_cases h : v = 0#8
  · simp [putBit, isZero, zStatus, h]
  · simp [putBit, isZero, zStatus, h]

theorem putBit_zero_eq_cStatus (c : Bool) (r3 : Byte) : putBit 0 c r3 = cStatus c r3 := by
  cases c with
  | false => rfl
  | true => rfl

/-- A logic result writes Z only, by its value (R222). -/
theorem zeroAlu_status (v r3 : Byte) : (zeroAlu v).status r3 = zStatus v r3 :=
  putBit_two_eq_zStatus v r3

theorem zStatus_zero (r3 : Byte) : zStatus 0#8 r3 = r3 ||| 0x04#8 := if_pos rfl

/-- The rotates write C only, with the bit shifted out (R260, R262). -/
theorem rotateRight_status (c : Bool) (v r3 : Byte) : (rotateRight c v).status r3 = cStatus (v.getLsbD 0) r3 :=
  putBit_zero_eq_cStatus _ r3

theorem rotateLeft_status (c : Bool) (v r3 : Byte) : (rotateLeft c v).status r3 = cStatus (v.getLsbD 7) r3 :=
  putBit_zero_eq_cStatus _ r3

/-! ## The rotates' values -/

/-- The carry comes in at bit 7 over the shifted byte (R260). -/
theorem rotateRight_val (c : Bool) (v : Byte) : (rotateRight c v).val = (v >>> 1) ||| (if c then 0x80#8 else 0#8) := by
  have htop : ∀ i < 8, (if c then 0x80#8 else 0#8).getLsbD i = (decide (i = 7) && c) := by cases c <;> decide
  refine BitVec.eq_of_getLsbD_eq fun i hi => ?_
  rw [BitVec.getLsbD_or, htop i hi, BitVec.getLsbD_ushiftRight]
  simp only [rotateRight, BitVec.getLsbD_append, BitVec.getLsbD_extractLsb']
  by_cases hlow : i < 7
  · have hne : i ≠ 7 := by omega
    simp [hlow, hne]
  · obtain rfl : i = 7 := by omega
    simp

/-- The carry comes in at bit 0 under the shifted byte (R262). -/
theorem rotateLeft_val (c : Bool) (v : Byte) : (rotateLeft c v).val = (v <<< 1) ||| (if c then 0x01#8 else 0#8) := by
  have hbottom : ∀ i < 8, (if c then 0x01#8 else 0#8).getLsbD i = (decide (i = 0) && c) := by cases c <;> decide
  refine BitVec.eq_of_getLsbD_eq fun i hi => ?_
  rw [BitVec.getLsbD_or, hbottom i hi, BitVec.getLsbD_shiftLeft]
  simp only [rotateLeft, BitVec.getLsbD_append, BitVec.getLsbD_extractLsb']
  by_cases hlow : i < 1
  · obtain rfl : i = 0 := by omega
    simp
  · have hne : i ≠ 0 := by omega
    have hshift : i - 1 < 7 := by omega
    simp [hlow, hne, hshift, hi]

/-! ## Each shape where it completes -/

/-- A literal instruction leaves its result in A and its flags in R3. -/
theorem literalToA_of_ne (x : Alu) {s : State} (hend : s.pc ≠ 0x7FFF#15) :
    literalToA x s = .next { s with a := x.val, r3 := x.status s.r3, pc := s.pc + 1#15 } :=
  advance_of_ne (s := (s.setStatus _).setA _) hend

section
variable {i : Instr} {r : Designator} {c : Cell} {s : State} {f : Byte → Alu} {val st : Byte → Byte}

/-- A result to A completes on every cell that is there. -/
theorem accumulatorGets_of_resultToA (hx : exec i s = resultToA r f s) (hc : names r s c) (hp : present c s)
    (hend : s.pc ≠ 0x7FFF#15) (hval : ∀ v, (f v).val = val v) (hst : ∀ v, (f v).status s.r3 = st v) :
    accumulatorGets i c s val st := by
  obtain ⟨v, u, hu, hframe⟩ := readCell_of_present allBits hp
  have hpc : u.pc = s.pc := readCell_pc hu
  have hr3 : u.r3 = s.r3 := by rw [hframe]
  refine ⟨v, u, hu, hframe, ?_⟩
  rw [hx, resultToA_of_read hc hu, advance_of_ne (s := (u.setStatus _).setA _) (hpc ▸ hend), hr3, hval, hst, ← hpc]
  rfl

/-- A result to the register completes on every cell that can be written. -/
theorem registerGets_of_resultToR (hx : exec i s = resultToR r f s) (hc : names r s c) (hp : present c s)
    (hend : s.pc ≠ 0x7FFF#15) (hpcl : c ≠ .pcl) (hstatus : c ≠ .status) (hre : c ≠ .re)
    (hval : ∀ v, (f v).val = val v) (hst : ∀ v, (f v).status s.r3 = st v) : registerGets i c s val st := by
  obtain ⟨v, u, hu, hframe⟩ := readCell_of_present allBits hp
  obtain ⟨w, hw⟩ := writeCell_of_present (val v) hpcl hre (present_after_readCell hp hu)
  have hpc : w.pc = s.pc := (writeCell_pc hw).trans (readCell_pc hu)
  have hr3 : w.r3 = s.r3 := (writeCell_status_ne hstatus hw).trans (by rw [hframe])
  refine ⟨v, u, w, hu, hframe, hw, ?_⟩
  rw [hx, resultToR_of_names hc, resultToCell_of_read hstatus hu, hval, hw, andThen_next,
    advance_of_ne (s := w.setStatus _) (hpc ▸ hend), hr3, hst, ← hpc]
  rfl

/-- The logic instructions into A: Z by the value (R222). -/
theorem accumulatorGets_of_zeroAlu (hx : exec i s = resultToA r (fun v => zeroAlu (val v)) s) (hc : names r s c)
    (hp : present c s) (hend : s.pc ≠ 0x7FFF#15) : accumulatorGets i c s val (fun v => zStatus (val v) s.r3) :=
  accumulatorGets_of_resultToA hx hc hp hend (fun _ => rfl) fun v => zeroAlu_status (val v) s.r3

/-- The logic instructions into the register: Z by the computed value, whatever bits the cell keeps (R222, R244). -/
theorem registerGets_of_zeroAlu (hx : exec i s = resultToR r (fun v => zeroAlu (val v)) s) (hc : names r s c)
    (hp : present c s) (hend : s.pc ≠ 0x7FFF#15) (hpcl : c ≠ .pcl) (hstatus : c ≠ .status) (hre : c ≠ .re) :
    registerGets i c s val (fun v => zStatus (val v) s.r3) :=
  registerGets_of_resultToR hx hc hp hend hpcl hstatus hre (fun _ => rfl) fun v => zeroAlu_status (val v) s.r3

end

/-! ## The result in A -/

/-- Settles O18: the seven are one shape, a result to A with Z by its value. -/
theorem logicToAccumulator : Obligations.LogicToAccumulator := by
  intro r s c hc hp hend
  have hlogic {i : Instr} {val : Byte → Byte} (hx : exec i s = resultToA r (fun v => zeroAlu (val v)) s) :=
    accumulatorGets_of_zeroAlu hx hc hp hend
  exact ⟨decodeOfEncode (.movAR r) rfl, decodeOfEncode (.orAR r) rfl, decodeOfEncode (.andAR r) rfl,
    decodeOfEncode (.xorAR r) rfl, decodeOfEncode (.decaR r) rfl, decodeOfEncode (.incaR r) rfl,
    decodeOfEncode (.comaR r) rfl, hlogic (Eq.refl (execMovAR r s)), hlogic (Eq.refl (execOrAR r s)),
    hlogic (Eq.refl (execAndAR r s)), hlogic (Eq.refl (execXorAR r s)), hlogic (Eq.refl (execDecaR r s)),
    hlogic (Eq.refl (execIncaR r s)), hlogic (Eq.refl (execComaR r s))⟩

/-- Settles O19: SWAPA is a result to A that writes no flag; the rotates' results and flags are `rotateRight` and
`rotateLeft` with the old C. -/
theorem rotatesAndSwapToAccumulator : Obligations.RotatesAndSwapToAccumulator := by
  intro r s c hc hp hend
  refine ⟨decodeOfEncode (.swapaR r) rfl, decodeOfEncode (.rrcaR r) rfl, decodeOfEncode (.rlcaR r) rfl,
    ?swapa, ?rrca, ?rlca⟩
  case swapa =>
    exact accumulatorGets_of_resultToA (Eq.refl (execSwapaR r s)) hc hp hend swapNibbles_eq_rotateLeft fun _ => rfl
  case rrca =>
    exact accumulatorGets_of_resultToA (Eq.refl (execRrcaR r s)) hc hp hend (rotateRight_val s.flagC)
      fun v => rotateRight_status s.flagC v s.r3
  case rlca =>
    exact accumulatorGets_of_resultToA (Eq.refl (execRlcaR r s)) hc hp hend (rotateLeft_val s.flagC)
      fun v => rotateLeft_status s.flagC v s.r3

/-- Settles O20: MOV A,k writes no flag, CLRA is a logic result of 0, and the others are logic results of A and `k`. -/
theorem literalsToAccumulator : Obligations.LiteralsToAccumulator := by
  intro k s hend
  have hlogic (v : Byte) :
      literalToA (zeroAlu v) s = .next { s with a := v, r3 := zStatus v s.r3, pc := s.pc + 1#15 } := by
    rw [literalToA_of_ne _ hend, zeroAlu_status]
    rfl
  exact ⟨decodeOfEncode (.movAK k) rfl, decodeOfEncode .clra rfl, decodeOfEncode (.orAK k) rfl,
    decodeOfEncode (.andAK k) rfl, decodeOfEncode (.xorAK k) rfl, literalToA_of_ne { val := k } hend,
    zStatus_zero s.r3 ▸ hlogic 0#8, hlogic (s.a ||| k), hlogic (s.a &&& k), hlogic (s.a ^^^ k)⟩

/-! ## The result in the register -/

/-- CLR R writes 0 without reading the cell, and sets Z (R205). -/
theorem exec_clrR_of_present {r : Designator} {c : Cell} {s : State} (hc : names r s c) (hp : present c s)
    (hend : s.pc ≠ 0x7FFF#15) (hpcl : c ≠ .pcl) (hstatus : c ≠ .status) (hre : c ≠ .re) :
    ∃ w, writeCell c 0#8 s = .next w ∧
      exec (.clrR r) s = .next { w with r3 := s.r3 ||| 0x04#8, pc := s.pc + 1#15 } := by
  obtain ⟨w, hw⟩ := writeCell_of_present 0#8 hpcl hre hp
  have hpc : w.pc = s.pc := writeCell_pc hw
  refine ⟨w, hw, ?_⟩
  rw [exec, execClrR_of_names hc hstatus, hw, andThen_next, advance_of_ne (s := w.setStatus _) (hpc ▸ hend),
    writeCell_status_ne hstatus hw, zeroAlu_status, zStatus_zero, ← hpc]
  rfl

/-- Settles O25: all but CLR R are one shape, a result to the register with Z by its value. -/
theorem logicToRegister : Obligations.LogicToRegister := by
  intro r s c hc hp hend hpcl hstatus hre
  have hlogic {i : Instr} {val : Byte → Byte} (hx : exec i s = resultToR r (fun v => zeroAlu (val v)) s) :=
    registerGets_of_zeroAlu hx hc hp hend hpcl hstatus hre
  exact ⟨hlogic (Eq.refl (execMovRR r s)), hlogic (Eq.refl (execOrRA r s)), hlogic (Eq.refl (execAndRA r s)),
    hlogic (Eq.refl (execXorRA r s)), hlogic (Eq.refl (execDecR r s)), hlogic (Eq.refl (execIncR r s)),
    hlogic (Eq.refl (execComR r s)), exec_clrR_of_present hc hp hend hpcl hstatus hre⟩

end Sys2Proof.Proofs

/-! PROOFS. Addition, subtraction and the decimal adjust (spec/42_arith_logic.md): each arithmetic result and its flags
in numbers, the addresses that ADD R2,A and TBL go to, and the default decimal adjust of a sum of packed-BCD bytes. -/

namespace Sys2Proof.Proofs

open Sys2Proof.Machine Sys2Proof.Claims

/-! ## Results and flags in numbers -/

theorem putBit_one_eq_dcStatus (dc : Bool) (r3 : Byte) : putBit 1 dc r3 = dcStatus dc r3 := by
  cases dc with
  | false => rfl
  | true => rfl

/-- An arithmetic result writes C, DC and Z (R220, R221). -/
theorem arithmetic_status (v : Byte) (c dc : Bool) (r3 : Byte) :
    ({ val := v, c := some c, dc := some dc, z := some (isZero v) } : Alu).status r3 =
      zStatus v (dcStatus dc (cStatus c r3)) := by
  rw [Alu.status, putBit?, putBit?, putBit?, putBit_zero_eq_cStatus, putBit_one_eq_dcStatus, putBit_two_eq_zStatus]

theorem lowNibble_toNat (v : Byte) : (v.extractLsb' 0 4).toNat = v.toNat % 16 :=
  BitVec.extractLsb'_toNat 0 4 v

/-- C and DC of a sum are the carries out of bits 7 and 3 (R220). -/
theorem addAlu_eq (a b : Byte) : addAlu a b =
    { val := a + b
      c := some (decide (255 < a.toNat + b.toNat))
      dc := some (decide (15 < a.toNat % 16 + b.toNat % 16))
      z := some (isZero (a + b)) } := by
  have ha := a.isLt
  have hb := b.isLt
  have hsum : (a.setWidth 9 + b.setWidth 9).toNat = a.toNat + b.toNat := by
    simp only [BitVec.toNat_add, BitVec.toNat_setWidth]
    omega
  have hval : (a.setWidth 9 + b.setWidth 9).setWidth 8 = a + b :=
    BitVec.eq_of_toNat_eq (by rw [BitVec.toNat_setWidth, hsum, BitVec.toNat_add])
  have hcarry : (a.setWidth 9 + b.setWidth 9).getLsbD 8 = decide (255 < a.toNat + b.toNat) := by
    rw [BitVec.getLsbD, hsum, Nat.testBit_eq_decide_div_mod_eq]
    exact decide_eq_decide.2 (by omega)
  rw [addAlu, hval, hcarry, lowNibble_toNat, lowNibble_toNat]

theorem addAlu_val (a b : Byte) : (addAlu a b).val = a + b := by
  rw [addAlu_eq]

theorem addAlu_status (a b r3 : Byte) : (addAlu a b).status r3 = addStatus a b r3 := by
  rw [addAlu_eq, arithmetic_status, addStatus]

/-- C and DC of a difference compare the bytes and their low digits, under either value of the parameter (R221). -/
theorem subAlu_status (notBorrow : Bool) (m s r3 : Byte) :
    (subAlu notBorrow m s).status r3 = subStatus notBorrow m s r3 := by
  rw [subAlu, arithmetic_status, lowNibble_toNat, lowNibble_toNat, subStatus]

theorem daaAlu_status (isDefault : Bool) (a : Byte) (c dc : Bool) (r3 : Byte) :
    (daaAlu isDefault a c dc).status r3 = cStatus (daaFun isDefault a c dc).2 r3 :=
  putBit_zero_eq_cStatus _ r3

/-! ## Computed jumps -/

/-- The page times 1024 and the byte (R299). -/
theorem computedTarget_eq (s : State) (v : Byte) :
    s.computedTarget v = BitVec.ofNat 15 (1024 * s.r5.toNat + v.toNat) := by
  have hr5 := s.r5.isLt
  have hv := v.isLt
  refine BitVec.eq_of_toNat_eq ?_
  rw [State.computedTarget, toNat_append_eq, toNat_append_eq, BitVec.toNat_ofNat, BitVec.toNat_ofNat]
  omega

/-- The block of 256 words and the byte in it (R285). -/
theorem tableTarget_eq (s : State) (v : Byte) :
    s.tableTarget v = BitVec.ofNat 15 (256 * (s.pc.toNat / 256) + v.toNat) := by
  have hpc := s.pc.isLt
  have hv := v.isLt
  refine BitVec.eq_of_toNat_eq ?_
  rw [State.tableTarget, toNat_append_eq, BitVec.toNat_ofNat, BitVec.extractLsb'_toNat, Nat.shiftRight_eq_div_pow]
  omega

/-- Where ADD R2,A and TBL leave the machine, R2 and the sum read as the statements read them. -/
theorem addJump_eq (s : State) (target : Byte → Addr) : addJump s target =
    { s with r3 := addStatus (pclByte s) s.a s.r3, pc := target (pclByte s + s.a) } := by
  rw [addJump, pcl_eq_pclByte, addAlu_status, addAlu_val]
  rfl

theorem execAddRA_pcl {r : Designator} {s : State} (hc : names r s .pcl) :
    execAddRA r s = .next (addJump s s.computedTarget) := by
  rw [execAddRA, resolve_of_names hc, andThen_next, if_pos rfl]
  rfl

/-! ## Addition and subtraction -/

/-- Settles O21: ADD A,R, ADD A,k and ADD R,A are the shapes of a result to A and to the register; ADD R2,A and TBL are
`addJump` with their own target. -/
theorem additionAndItsFlags : Obligations.AdditionAndItsFlags := by
  intro r k s c hc hp
  refine ⟨fun hend => ⟨?addAR, ?addAK, fun hpcl hstatus hre => ?addRA⟩, fun hpcl => ?addR2, ?tbl⟩
  case addAR =>
    exact accumulatorGets_of_resultToA (Eq.refl (execAddAR r s)) hc hp hend (addAlu_val s.a)
      fun v => addAlu_status s.a v s.r3
  case addAK => rw [exec, execAddAK, literalToA_of_ne _ hend, addAlu_val, addAlu_status]
  case addRA =>
    have hx : exec (.addRA r) s = resultToR r (addAlu s.a) s :=
      (execAddRA_of_names hc hpcl).trans (resultToR_of_names hc _).symm
    exact registerGets_of_resultToR hx hc hp hend hpcl hstatus hre (addAlu_val s.a) fun v => addAlu_status s.a v s.r3
  case addR2 =>
    subst hpcl
    rw [exec, execAddRA_pcl hc, addJump_eq, computedTarget_eq]
  case tbl =>
    have hx : exec .tbl s = .next (addJump s s.tableTarget) := rfl
    rw [hx, addJump_eq, tableTarget_eq]

/-- Settles O22: the three are one result, sent to A from the register, to A from the literal, and to the register. -/
theorem subtractionAndItsFlags : Obligations.SubtractionAndItsFlags := by
  intro r k s c hc hp hend
  have hflags (m : Byte) := subAlu_status s.cfg.subCIsNotBorrow m s.a s.r3
  refine ⟨?subAR, ?subAK, fun hpcl hstatus hre => ?subRA⟩
  case subAR => exact accumulatorGets_of_resultToA (Eq.refl (execSubAR r s)) hc hp hend (fun _ => rfl) hflags
  case subAK =>
    rw [exec, execSubAK, literalToA_of_ne _ hend, hflags]
    rfl
  case subRA =>
    exact registerGets_of_resultToR (Eq.refl (execSubRA r s)) hc hp hend hpcl hstatus hre (fun _ => rfl) hflags

/-! ## Decimal adjust -/

/-- The byte `a` after the correction of its low digit, as a number: the first half of the default adjust (R223). -/
def lowAdjusted (a : Byte) (dc : Bool) : Nat := a.toNat + if 9 < a.toNat % 16 ∨ dc then 6 else 0

theorem lowAdjusted_lt (a : Byte) (dc : Bool) : lowAdjusted a dc < 262 := by
  have ha := a.isLt
  unfold lowAdjusted
  split <;> omega

theorem lowAdjusted_eq_toNat (a : Byte) (dc : Bool) :
    (a.setWidth 9 + (if 9 < (a.extractLsb' 0 4).toNat ∨ dc then 6#9 else 0#9)).toNat = lowAdjusted a dc := by
  have ha := a.isLt
  rw [lowNibble_toNat, lowAdjusted, BitVec.toNat_add, BitVec.toNat_setWidth]
  split <;> simp only [BitVec.toNat_ofNat] <;> omega

/-- The default adjust in numbers: the high digit is corrected, and C set, where the digits above the low one are more
than 9 or a carry came in (R223). -/
theorem daaDefault_eq (a : Byte) (c dc : Bool) : daaDefault a c dc =
    (BitVec.ofNat 8 (lowAdjusted a dc + if c ∨ 9 < lowAdjusted a dc / 16 then 0x60 else 0),
      decide (c ∨ 9 < lowAdjusted a dc / 16)) := by
  have hlt := lowAdjusted_lt a dc
  have ht := lowAdjusted_eq_toNat a dc
  unfold daaDefault
  generalize a.setWidth 9 + (if 9 < (a.extractLsb' 0 4).toNat ∨ dc then 6#9 else 0#9) = t at ht ⊢
  have hhi : (decide (9 < (t.extractLsb' 4 4).toNat) || c || t.getLsbD 8) =
      decide (c ∨ 9 < lowAdjusted a dc / 16) := by
    rw [BitVec.getLsbD, Nat.testBit_eq_decide_div_mod_eq, BitVec.extractLsb'_toNat, Nat.shiftRight_eq_div_pow, ht,
      Bool.eq_iff_iff]
    cases c with
    | false =>
      simp only [Bool.or_false, Bool.or_eq_true, decide_eq_true_eq, Bool.false_eq_true, false_or]
      omega
    | true => simp
  simp only [hhi, decide_eq_true_eq]
  refine Prod.ext (BitVec.eq_of_toNat_eq ?_) rfl
  split <;> simp only [BitVec.toNat_setWidth, BitVec.toNat_add, BitVec.toNat_ofNat, ht] <;> omega

/-- The packed-BCD byte of the two low decimal digits of `n`. -/
def packedBcd (n : Nat) : Byte := BitVec.ofNat 8 (16 * (n / 10 % 10) + n % 10)

theorem packedBcd_toNat (n : Nat) : (packedBcd n).toNat = 16 * (n / 10 % 10) + n % 10 := by
  rw [packedBcd, BitVec.toNat_ofNat]
  omega

/-- The low digit of a sum is corrected exactly where the units carry. -/
theorem lowAdjusted_packedBcd_add (x y : Nat) :
    lowAdjusted (packedBcd x + packedBcd y) (decide (15 < (packedBcd x).toNat % 16 + (packedBcd y).toNat % 16)) =
      ((packedBcd x).toNat + (packedBcd y).toNat) % 256 + if 10 ≤ x % 10 + y % 10 then 6 else 0 := by
  have hunits : (9 < ((packedBcd x).toNat + (packedBcd y).toNat) % 256 % 16 ∨
      15 < (packedBcd x).toNat % 16 + (packedBcd y).toNat % 16) ↔ 10 ≤ x % 10 + y % 10 := by
    rw [packedBcd_toNat, packedBcd_toNat]
    omega
  simp only [lowAdjusted, BitVec.toNat_add, decide_eq_true_eq, Nat.reducePow, hunits]

/-- With the correction for the units' carry, the sum of the two bytes holds the units of `x + y` in its low digit and
the tens above. -/
theorem packedBcd_add_carry {x y : Nat} (hx : x < 100) (hy : y < 100) :
    (packedBcd x).toNat + (packedBcd y).toNat + (if 10 ≤ x % 10 + y % 10 then 6 else 0) =
      16 * ((x + y) / 10) + (x + y) % 10 := by
  rw [packedBcd_toNat, packedBcd_toNat]
  split <;> omega

/-- The default adjust corrects the sum of two packed-BCD bytes: the high digit is corrected exactly where there are ten
tens or more (R223, D9). -/
theorem daaDefault_addAlu_packedBcd {x y : Nat} (hx : x < 100) (hy : y < 100) :
    daaDefault (addAlu (packedBcd x) (packedBcd y)).val ((addAlu (packedBcd x) (packedBcd y)).c == some true)
        ((addAlu (packedBcd x) (packedBcd y)).dc == some true) =
      (packedBcd (x + y), decide (100 ≤ x + y)) := by
  have hcarry := packedBcd_add_carry hx hy
  have hsix : (if 10 ≤ x % 10 + y % 10 then 6 else 0) ≤ 6 := by split <;> decide
  rw [addAlu_eq]
  simp only [Option.some_beq_some, beq_true, daaDefault_eq, lowAdjusted_packedBcd_add, decide_eq_true_eq]
  generalize (packedBcd x).toNat + (packedBcd y).toNat = sum at hcarry ⊢
  generalize (if 10 ≤ x % 10 + y % 10 then 6 else 0) = six at hcarry hsix ⊢
  have hhigh : (255 < sum ∨ 9 < (sum % 256 + six) / 16) ↔ 100 ≤ x + y := by omega
  simp only [hhigh]
  refine Prod.ext (BitVec.eq_of_toNat_eq ?_) rfl
  rw [packedBcd_toNat, BitVec.toNat_ofNat]
  by_cases hhundred : 100 ≤ x + y
  · have htens : (x + y) / 10 % 10 = (x + y) / 10 - 10 := by omega
    rw [if_pos hhundred, htens]
    omega
  · have htens : (x + y) / 10 % 10 = (x + y) / 10 := by omega
    rw [if_neg hhundred, htens]
    omega

/-- Settles O23: DAA is a result in A that writes C only; the default is the correction of the two digits. -/
theorem decimalAdjust : Obligations.DecimalAdjust := by
  refine ⟨fun s hend => ?completes, fun x y hx hy => daaDefault_addAlu_packedBcd hx hy⟩
  rw [exec, execDaa, literalToA_of_ne _ hend, daaAlu_status]
  rfl

end Sys2Proof.Proofs

/-! PROOFS. The rotates of a register through the carry (spec/43_rotate_bit.md). -/

namespace Sys2Proof.Proofs

open Sys2Proof.Machine Sys2Proof.Claims

/-- Settles O26: both are a result to the register, `rotateRight` and `rotateLeft` with the old C coming in; the value
and the flag of each are those of the rotates into A. -/
theorem rotatesToRegister : Obligations.RotatesToRegister := by
  intro r s c hc hp hend hpcl hstatus hre
  refine ⟨?rrc, ?rlc⟩
  case rrc =>
    exact registerGets_of_resultToR (Eq.refl (execRrcR r s)) hc hp hend hpcl hstatus hre (rotateRight_val s.flagC)
      fun v => rotateRight_status s.flagC v s.r3
  case rlc =>
    exact registerGets_of_resultToR (Eq.refl (execRlcR r s)) hc hp hend hpcl hstatus hre (rotateLeft_val s.flagC)
      fun v => rotateLeft_status s.flagC v s.r3

end Sys2Proof.Proofs

/-! PROOFS. The control transfers (spec/44_control_transfer.md): the addresses the jumps go to, the returns, and where
each skipping shape (a bit test, a count to A, a count in the register) completes, with and without its skip. -/

namespace Sys2Proof.Proofs

open Sys2Proof.Machine Sys2Proof.Claims

/-! ## Skips -/

section
variable {i : Instr} {r : Designator} {c : Cell} {s u w : State} {v : Byte}

/-- Without its condition a conditional skip goes on to the next word, from where the instruction started. -/
theorem skipIf_false_of_pc (hpc : w.pc = s.pc) (hend : s.pc ≠ 0x7FFF#15) :
    skipIf false w = .next { w with pc := s.pc + 1#15 } := by
  rw [← hpc]
  exact advance_of_ne (hpc ▸ hend)

/-- With its condition it passes one word, where there is a word to go to (R29, R293). -/
theorem skipIf_true_of_pc (hpc : w.pc = s.pc) (hroom : s.pc.toNat < 0x7FFE) :
    skipIf true w = .next { w with pc := s.pc + 2#15 } := by
  rw [← hpc]
  exact skip_eq_next.2 ⟨hpc ▸ hroom, rfl⟩

/-- A skip on a zero count, which the value `v` counts to only from `last`. -/
theorem skipIf_isZero_of_pc {x last : Byte} (hzero : x = 0#8 ↔ v = last) (hpc : w.pc = s.pc)
    (hend : s.pc ≠ 0x7FFF#15) :
    (v ≠ last → skipIf (isZero x) w = .next { w with pc := s.pc + 1#15 }) ∧
      (v = last → s.pc.toNat < 0x7FFE → skipIf (isZero x) w = .next { w with pc := s.pc + 2#15 }) := by
  refine ⟨fun hv => ?goesOn, fun hv hroom => ?skips⟩
  case goesOn =>
    rw [isZero, decide_eq_false (mt hzero.1 hv)]
    exact skipIf_false_of_pc hpc hend
  case skips =>
    rw [isZero, decide_eq_true (hzero.2 hv)]
    exact skipIf_true_of_pc hpc hroom

/-- A bit test goes on where the bit is not the wanted one, and skips where it is (R286, R287). -/
theorem skipOnBit_completes {b : BitNumber} {wanted : Bool} (hx : exec i s = skipOnBit r b wanted s) (hc : names r s c)
    (hu : readCell (1#8 <<< b.toNat) c s = .next (v, u)) (hend : s.pc ≠ 0x7FFF#15) :
    (v.getLsbD b.toNat = !wanted → exec i s = .next { u with pc := s.pc + 1#15 }) ∧
      (v.getLsbD b.toNat = wanted → s.pc.toNat < 0x7FFE → exec i s = .next { u with pc := s.pc + 2#15 }) := by
  rw [hx, skipOnBit_of_read hc hu]
  refine ⟨fun hbit => ?goesOn, fun hbit hroom => ?skips⟩
  case goesOn =>
    rw [hbit, Bool.not_beq_self]
    exact skipIf_false_of_pc (readCell_pc hu) hend
  case skips =>
    rw [hbit, beq_self_eq_true]
    exact skipIf_true_of_pc (readCell_pc hu) hroom

/-- A count to A leaves the count there, 0 where it skips (R288, R290). -/
theorem countToA_completes {f : Byte → Byte} {last : Byte} (hx : exec i s = countToA r f s)
    (hzero : ∀ v, f v = 0#8 ↔ v = last) (hc : names r s c) (hu : readCell allBits c s = .next (v, u))
    (hend : s.pc ≠ 0x7FFF#15) :
    (v ≠ last → exec i s = .next { u with a := f v, pc := s.pc + 1#15 }) ∧
      (v = last → s.pc.toNat < 0x7FFE → exec i s = .next { u with a := 0#8, pc := s.pc + 2#15 }) := by
  have hpc : u.pc = s.pc := readCell_pc hu
  obtain ⟨hgoesOn, hskips⟩ := skipIf_isZero_of_pc (w := u.setA (f v)) (hzero v) hpc hend
  rw [hx, countToA_of_read hc hu]
  exact ⟨hgoesOn, fun hv hroom => (hzero v).2 hv ▸ hskips hv hroom⟩

/-- A count in the register completes on every cell that can be written (R289, R291). -/
theorem countToR_completes {f : Byte → Byte} {last : Byte} (hx : exec i s = countToR r f s)
    (hzero : ∀ v, f v = 0#8 ↔ v = last) (hc : names r s c) (hu : readCell allBits c s = .next (v, u))
    (hend : s.pc ≠ 0x7FFF#15) (hpcl : c ≠ .pcl) (hre : c ≠ .re) :
    ∃ w, writeCell c (f v) u = .next w ∧
      (v ≠ last → exec i s = .next { w with pc := s.pc + 1#15 }) ∧
      (v = last → s.pc.toNat < 0x7FFE → exec i s = .next { w with pc := s.pc + 2#15 }) := by
  obtain ⟨w, hw⟩ := writeCell_of_present (f v) hpcl hre (present_after_readCell (present_of_readCell hu) hu)
  have hpc : w.pc = s.pc := (writeCell_pc hw).trans (readCell_pc hu)
  refine ⟨w, hw, ?_⟩
  rw [hx, countToR_of_read hc hu, hw, andThen_next]
  exact skipIf_isZero_of_pc (hzero v) hpc hend

end

/-- A count up wraps to 0 from 0xFF (R290). -/
theorem countUp_eq_zero_iff (v : Byte) : v + 1#8 = 0#8 ↔ v = 0xFF#8 := add_eq_zero_iff_eq_neg

/-- Settles O31: both are the bit test, each with its wanted bit, on the one read. -/
theorem bitTestSkips : Obligations.BitTestSkips := by
  intro r b s c hc hp hend
  obtain ⟨v, u, hu, hframe⟩ := readCell_of_present (1#8 <<< b.toNat) hp
  obtain ⟨hjbc, hjbcSkips⟩ := skipOnBit_completes (i := .jbc r b) (wanted := false) rfl hc hu hend
  obtain ⟨hjbs, hjbsSkips⟩ := skipOnBit_completes (i := .jbs r b) (wanted := true) rfl hc hu hend
  exact ⟨decodeOfEncode (.jbc r b) rfl, decodeOfEncode (.jbs r b) rfl, v, u, hu, hframe, hjbc, hjbcSkips, hjbs,
    hjbsSkips⟩

/-- Settles O32: both are the count to A, which comes to zero from 0x01 down and from 0xFF up. -/
theorem countSkipsToAccumulator : Obligations.CountSkipsToAccumulator := by
  intro r s c hc hp hend
  obtain ⟨v, u, hu, hframe⟩ := readCell_of_present allBits hp
  obtain ⟨hdown, hdownSkips⟩ := countToA_completes (i := .djzaR r) rfl (fun _ => sub_eq_zero) hc hu hend
  obtain ⟨hup, hupSkips⟩ := countToA_completes (i := .jzaR r) rfl countUp_eq_zero_iff hc hu hend
  exact ⟨decodeOfEncode (.djzaR r) rfl, decodeOfEncode (.jzaR r) rfl, v, u, hu, hframe, hdown, hdownSkips, hup,
    hupSkips⟩

/-- Settles O33: both are the count in the register, which comes to zero from 0x01 down and from 0xFF up. -/
theorem countSkipsToRegister : Obligations.CountSkipsToRegister := by
  intro r s c hc hp hend hpcl hre
  obtain ⟨v, u, hu, hframe⟩ := readCell_of_present allBits hp
  exact ⟨v, u, hu, hframe, countToR_completes (i := .djzR r) rfl (fun _ => sub_eq_zero) hc hu hend hpcl hre,
    countToR_completes (i := .jzR r) rfl countUp_eq_zero_iff hc hu hend hpcl hre⟩

/-! ## Paged jumps -/

/-- The page times 1024 and the ten bits of the word (R280). -/
theorem pageTarget_eq (s : State) (k : BitVec 10) : s.pageTarget k = BitVec.ofNat 15 (1024 * s.r5.toNat + k.toNat) := by
  have hr5 := s.r5.isLt
  have hk := k.isLt
  refine BitVec.eq_of_toNat_eq ?_
  rw [State.pageTarget, toNat_append_eq, BitVec.toNat_ofNat]
  omega

/-- A designator that comes to 2, itself or through R4, names R2 (R103). -/
theorem names_pcl_of_toNat {r : Designator} {s : State} (h : (effective r s).toNat = 2) : names r s .pcl :=
  resolve_eq_next.1 (resolve_of_toNat h rfl)

theorem execMovRA_pcl {r : Designator} {s : State} (hc : names r s .pcl) :
    execMovRA r s = .next (s.setPc (s.computedTarget s.a)) := by
  rw [execMovRA, resolve_of_names hc, andThen_next, if_pos rfl]

/-- Settles O28: JMP and MOV R2,A set `pc`, and CALL is `pushNext` followed by the jump, so it stops where the push
does. -/
theorem pagedJumps : Obligations.PagedJumps := by
  intro k r s
  refine ⟨decodeOfEncode (.jmp k) rfl, decodeOfEncode (.call k) rfl, decodeOfEncode (.movRA 2) rfl,
    names_pcl_of_toNat (effective_toNat 2 s), fun h => names_pcl_of_toNat ((effective_toNat 0 s).trans h),
    fun hend hfull => ?full, fun hend => ?atEnd, ?jmp, fun hend hroom => ?call, fun hc => ?movR2⟩
  case full => rw [exec, execCall, pushNext_full hend hfull, andThen_refused]
  case atEnd => rw [exec, execCall, pushNext_atEnd hend, andThen_refused]
  case jmp =>
    rw [exec, execJmp, pageTarget_eq]
    rfl
  case call =>
    rw [exec, execCall, pushNext_of_room hend hroom, andThen_next, pageTarget_eq]
    rfl
  case movR2 =>
    rw [exec, execMovRA_pcl hc, computedTarget_eq]
    rfl

/-! ## Returns -/

theorem returnToTop_cons {s : State} {v : Addr} {rest : List Addr} (h : s.stack = v :: rest) :
    returnToTop s = .next { s with pc := v, stack := rest } :=
  returnToTop_eq_next.2 ⟨v, rest, h, rfl⟩

/-- Settles O29: each is `returnToTop`, then RETL's A or RETI's IE; on the empty stack it stops there. -/
theorem returns : Obligations.Returns := by
  intro k s
  refine ⟨decodeOfEncode .ret rfl, decodeOfEncode (.retl k) rfl, decodeOfEncode .reti rfl,
    fun v rest htop => ⟨returnToTop_cons htop, ?retl, ?reti⟩, fun hempty => ?empty⟩
  case retl =>
    rw [exec, execRetl, returnToTop_cons htop, andThen_next]
    rfl
  case reti =>
    rw [exec, execReti, returnToTop_cons htop, andThen_next]
    rfl
  case empty =>
    obtain ⟨-, hrefused⟩ := stackLimits 0 k s
    exact hrefused hempty

end Sys2Proof.Proofs

/-! PROOFS. Interrupts, the idle state, the timers and the pins (spec/60_exceptions.md): the CPU's turn where it takes
an interrupt, is idle or is held in reset, each event by the cases of its guard, what ends the idle state, and that
under fairness the TCC or the watchdog ends it. -/

namespace Sys2Proof.Proofs

open Sys2Proof.Machine Sys2Proof.Claims

/-! ## The CPU's turn: interrupt entry, idle, held in reset -/

theorem takesInterrupt_of_request {s : State} (hie : s.ie = true) (hrf : s.rf &&& s.iocf ≠ 0#7)
    (hhold : s.irqHold = false) : s.takesInterrupt = true := by
  simp [State.takesInterrupt, State.interruptRequested, hie, hrf, hhold]

theorem cpuTurn_of_request {s : State} (hlow : s.resetLow = false) (hrun : s.run = .running)
    (htakes : s.takesInterrupt = true) : cpuTurn s = interruptEntry s.beginStep := by
  simp [cpuTurn, hlow, hrun, htakes]

/-- With no hold to end, a CPU step begins with the watchdog's count alone (R358, R368). -/
theorem beginStep_of_unheld {s : State} (hhold : s.irqHold = false) : s.beginStep = s.setWdt (s.wdt + 1) := by
  rw [State.beginStep, ← hhold]
  rfl

theorem interruptEntry_full {s : State} (hfull : 8 ≤ s.stack.length) : interruptEntry s = .refused .stackFull := by
  rw [interruptEntry, push, if_pos hfull, andThen_refused]

/-- Settles O6: the turn is the entry, which needs room on the stack. -/
theorem interruptEntryAtBoundary : Obligations.InterruptEntryAtBoundary := by
  intro s s' hm hlow hrun hhold hie hrf
  obtain ⟨l, rfl⟩ : ∃ l, s' = s.setAgenda l := ⟨_, eq_setAgenda_of_cpuMoves hm⟩
  have hstep : step s = interruptEntry ((s.setAgenda l).setWdt (s.wdt + 1)) := by
    have htakes : (s.setAgenda l).takesInterrupt = true := takesInterrupt_of_request hie hrf hhold
    rw [step_of_cpuMoves hm, cpuTurn_of_request (s := s.setAgenda l) hlow hrun htakes,
      beginStep_of_unheld (s := s.setAgenda l) hhold, State.setAgenda_wdt]
  refine ⟨fun hroom => ?room, fun hfull => hstep.trans (interruptEntry_full hfull)⟩
  refine ⟨_, hstep.trans (interruptEntry_eq_next.2 ⟨hroom, rfl⟩), rfl, rfl, ?ie, rfl⟩
  exact congrArg (if s.cfg.intEntryClearsIe then false else ·) hie

/-- Settles O8: held in reset the turn leaves the state, and idle it is an idle turn. -/
theorem idleOrHeldCpuDoesNothing : Obligations.IdleOrHeldCpuDoesNothing := by
  intro s s' hm
  rw [step_of_cpuMoves hm]
  obtain ⟨l, rfl⟩ : ∃ l, s' = s.setAgenda l := ⟨_, eq_setAgenda_of_cpuMoves hm⟩
  exact ⟨fun hlow => if_pos hlow, fun hlow hidle => cpuTurn_idle (s := s.setAgenda l) hidle hlow⟩

/-! ## The TCC -/

/-- The next count of a `w`-bit prescaler, at a ratio it can hold. -/
theorem toNat_add_one_mod {w k : Nat} (v : BitVec w) (hk : k ≤ w) :
    (v + 1#w).toNat % 2 ^ k = (v.toNat + 1) % 2 ^ k := by
  rw [BitVec.toNat_add, BitVec.toNat_ofNat, Nat.add_mod_mod, Nat.mod_mod_of_dvd _ (Nat.pow_dvd_pow 2 hk)]

/-- The next count of the prescaler is a multiple of its ratio 1 : 2^(PSR+1) (R361, R363). -/
abbrev rollsOver (s : State) : Prop := (s.pre.toNat + 1) % 2 ^ (s.cont.toNat % 8 + 1) = 0

/-- The prescaler after a tick: it counts where it is the TCC's (R363). -/
def tickedPre (s : State) : Byte := if s.cont.getLsbD 3 then s.pre else s.pre + 1#8

theorem prescalerSelect_eq (s : State) : s.prescalerSelect = s.cont.toNat % 8 := by
  simp [State.prescalerSelect, BitVec.extractLsb'_toNat]

theorem occur_tccTick_of_clocked {s : State} (hlow : s.resetLow = false)
    (hclock : s.run = .running ∨ s.cont.getLsbD 5 = true) : occur .tccTick s = s.tccTick := by
  refine if_pos ?_
  obtain hrun | hts := hclock
  · simp [State.tccClocked, hlow, hrun]
  · simp [State.tccClocked, State.tccOnSubClock, hlow, hts]

theorem occur_tccTick_of_unclocked {s : State} (h : s.resetLow = true ∨ (s.cont.getLsbD 5 = false ∧ s.run = .idle)) :
    occur .tccTick s = s := by
  refine if_neg ?_
  obtain hlow | ⟨hts, hidle⟩ := h
  · simp [State.tccClocked, hlow]
  · rw [State.tccClocked, State.tccOnSubClock, hts, hidle]
    simp

/-- Where the TCC has the prescaler, a tick counts there and passes on the roll-over. -/
theorem tccTick_of_prescaler {s : State} (hpab : s.cont.getLsbD 3 = false) :
    s.tccTick = if rollsOver s then (s.setPre (s.pre + 1#8)).tccCount else s.setPre (s.pre + 1#8) := by
  have hratio : (s.pre + 1#8).toNat % 2 ^ (s.prescalerSelect + 1) = (s.pre.toNat + 1) % 2 ^ (s.cont.toNat % 8 + 1) := by
    rw [prescalerSelect_eq]
    exact toNat_add_one_mod s.pre (by omega)
  have hown : ¬ s.prescalerOnWdt = true := Bool.eq_false_iff.1 hpab
  simp only [rollsOver, ← hratio]
  exact if_neg hown

theorem tccTick_of_counts {s : State} (h : s.cont.getLsbD 3 = true ∨ rollsOver s) :
    s.tccTick = (s.setPre (tickedPre s)).tccCount := by
  cases hpab : s.cont.getLsbD 3 with
  | true =>
    rw [tickedPre, hpab]
    exact if_pos hpab
  | false =>
    have hroll : rollsOver s := h.resolve_left (Bool.eq_false_iff.1 hpab)
    rw [tccTick_of_prescaler hpab, if_pos hroll, tickedPre, hpab]
    rfl

theorem tccCount_of_ne {s : State} (h : s.tcc ≠ 0xFF#8) : s.tccCount = { s with tcc := s.tcc + 1#8 } := if_neg h

theorem tccCount_of_overflow {s : State} (h : s.tcc = 0xFF#8) :
    s.tccCount = State.tccOverflow { s with tcc := 0#8 } := if_pos h

/-- An overflow raises the flag; it wakes an idle CPU if the TCC runs there and its mask bit is set (R354, R364). -/
theorem tccOverflow_eq (s : State) :
    s.tccOverflow = if s.run = .idle ∧ s.cont.getLsbD 5 = true ∧ s.iocf.getLsbD 0 = true then (s.raise 0x01#7).wake
      else s.raise 0x01#7 := rfl

theorem tccOverflow_of_running {s : State} (h : s.run = .running) : s.tccOverflow = s.raise 0x01#7 := by
  rw [tccOverflow_eq, if_neg (by simp [h])]

/-- Settles O52: the guard of the tick, the prescaler and the count, each in turn. -/
theorem tccTicks : Obligations.TccTicks := by
  intro s
  refine ⟨occur_tccTick_of_unclocked, fun hlow hclock => ?_⟩
  rw [occur_tccTick_of_clocked hlow hclock]
  refine ⟨fun hpab hnot => (tccTick_of_prescaler hpab).trans (if_neg hnot), fun hcounts => ?_⟩
  rw [tccTick_of_counts hcounts]
  refine ⟨tccCount_of_ne (s := s.setPre (tickedPre s)), fun hrun hfull => ?_⟩
  have hwrapped : ({ s.setPre (tickedPre s) with tcc := 0#8 } : State).run = .running := hrun
  rw [tccCount_of_overflow (s := s.setPre (tickedPre s)) hfull, tccOverflow_of_running hwrapped, BitVec.and_comm]
  rfl

/-- The flag of bit 0 under its mask bit, set or clear. -/
theorem one_and_eq (m : BitVec 7) : 0x01#7 &&& m = if m.getLsbD 0 then 0x01#7 else 0#7 := by
  refine BitVec.eq_of_getLsbD_eq fun i hi => ?_
  have hone : (0x01#7).getLsbD i = decide (i = 0) := by simp
  rw [BitVec.getLsbD_and, hone]
  by_cases h0 : i = 0
  · subst h0
    cases m.getLsbD 0 <;> rfl
  · cases m.getLsbD 0 <;> simp [h0]

/-- Settles O53: the overflow of the idle CPU's TCC, by its mask bit. -/
theorem tccWakesTheIdleCpu : Obligations.TccWakesTheIdleCpu := by
  intro s hlow hidle hts hcounts hfull
  have hoverflow : occur .tccTick s = State.tccOverflow { s with pre := tickedPre s, tcc := 0#8 } := by
    rw [occur_tccTick_of_clocked hlow (.inr hts), tccTick_of_counts hcounts]
    exact tccCount_of_overflow (s := s.setPre (tickedPre s)) hfull
  refine ⟨_, rfl, ?_⟩
  rw [hoverflow, tccOverflow_eq]
  cases hmask : s.iocf.getLsbD 0 with
  | true =>
    rw [if_pos ⟨hidle, hts, rfl⟩]
    refine ⟨rfl, rfl, fun _ => ⟨rfl, ?_, rfl⟩, fun h => nomatch h⟩
    have hflag : 0x01#7 &&& s.iocf = 0x01#7 := by rw [one_and_eq, hmask, if_pos rfl]
    exact congrArg (s.rf ||| ·) hflag
  | false =>
    have hflag : 0x01#7 &&& s.iocf = 0#7 := by rw [one_and_eq, hmask]; rfl
    have hraise : State.raise { s with pre := tickedPre s, tcc := 0#8 } 0x01#7 =
        { s with pre := tickedPre s, tcc := 0#8 } := by
      rw [State.raise, hflag, BitVec.or_zero]
      rfl
    rw [if_neg (by simp), hraise]
    exact ⟨rfl, rfl, fun h => (nomatch h), fun _ => rfl⟩

/-! ## COUNTER1 and COUNTER2 -/

/-- A counter's source runs where it is the sub clock, or the main clock in normal mode (R370). -/
theorem sourceRuns_of {s : State} {onMain : Bool}
    (h : onMain = false ∨ (s.run = .running ∧ s.ra.getLsbD 6 = true)) : (!onMain || s.mainClockOn) = true := by
  obtain rfl | hnormal := h
  · rfl
  · simp [State.mainClockOn, hnormal]

theorem mainClockOn_eq_false {s : State} (h : s.run = .idle ∨ s.ra.getLsbD 6 = false) : s.mainClockOn = false := by
  obtain hidle | hra := h
  · simp [State.mainClockOn, hidle]
  · rw [State.mainClockOn, hra, Bool.and_false]

/-- COUNTER1's period passes its prescaler when the next count is a multiple of 2^m, m = IOCA[5:4] (R372). -/
theorem counter1Tick_eq (s : State) :
    s.counter1Tick = if (s.cpre1.toNat + 1) % 2 ^ (s.ioca.toNat % 4) = 0 then
        if s.cnt1 = 0xFF#8 then State.raise { s with cpre1 := s.cpre1 + 1#3, cnt1 := 0#8 } 0x20#7
        else { s with cpre1 := s.cpre1 + 1#3, cnt1 := s.cnt1 + 1#8 }
      else { s with cpre1 := s.cpre1 + 1#3 } := by
  have hselect : (s.ioca.extractLsb' 0 2).toNat = s.ioca.toNat % 4 := by simp [BitVec.extractLsb'_toNat]
  rw [← toNat_add_one_mod s.cpre1 (show s.ioca.toNat % 4 ≤ 3 by omega), ← hselect]
  rfl

/-- Settles O54: each counter by its guard, COUNTER1 then by its prescaler. -/
theorem counterTicks : Obligations.CounterTicks := by
  intro s
  refine ⟨fun hlow hclock => ?counter1, fun hlow hclock => ?counter2,
    fun hoff => ⟨fun hmain => ?off1, fun hmain => ?off2⟩⟩
  case counter1 =>
    have hclocked : s.counter1Clocked = true := by
      rw [State.counter1Clocked, hlow, sourceRuns_of hclock]
      rfl
    have htick : occur .counter1Tick s = s.counter1Tick := if_pos hclocked
    rw [htick, counter1Tick_eq, BitVec.and_comm s.iocf]
    refine ⟨fun hdiv => if_neg hdiv, fun hdiv => ?_⟩
    rw [if_pos hdiv]
    exact ⟨fun hcnt => if_neg hcnt, fun hcnt => if_pos hcnt⟩
  case counter2 =>
    have hclocked : s.counter2Clocked = true := by
      rw [State.counter2Clocked, hlow, sourceRuns_of hclock]
      rfl
    have htick : occur .counter2Tick s = s.counter2Tick := if_pos hclocked
    rw [htick, BitVec.and_comm s.iocf]
    exact ⟨fun hcnt => if_neg hcnt, fun hcnt => if_pos hcnt⟩
  case off1 => exact if_neg (by simp [State.counter1Clocked, hmain, mainClockOn_eq_false hoff])
  case off2 => exact if_neg (by simp [State.counter2Clocked, hmain, mainClockOn_eq_false hoff])

/-! ## The watchdog -/

theorem wdtMayExpire_iff (s : State) :
    s.wdtMayExpire = true ↔ s.ra.getLsbD 3 = true ∧ s.cfg.wdtMinSteps ≤ s.wdt := by
  simp [State.wdtMayExpire, State.wdtEnabled]

theorem occur_watchdog_of_not {s : State} (h : ¬ (s.ra.getLsbD 3 = true ∧ s.cfg.wdtMinSteps ≤ s.wdt)) :
    occur .watchdog s = s := if_neg fun hmay => h ((wdtMayExpire_iff s).1 hmay)

theorem occur_watchdog_of_expires {s : State} (hra : s.ra.getLsbD 3 = true) (hsteps : s.cfg.wdtMinSteps ≤ s.wdt) :
    occur .watchdog s = s.watchdogTimeout := if_pos ((wdtMayExpire_iff s).2 ⟨hra, hsteps⟩)

theorem watchdogTimeout_of_running {s : State} (h : s.run = .running) :
    s.watchdogTimeout = resetEvent .watchdog s := by
  simp [State.watchdogTimeout, h]

theorem watchdogTimeout_of_idle {s : State} (h : s.run = .idle) :
    s.watchdogTimeout = (s.setStatus (tpStatus false false s.r3)).wake := by
  simp [State.watchdogTimeout, h, statusTP_eq_tpStatus]

/-- Settles O55: the guard, then the time-out by the run state. -/
theorem watchdogTimeOut : Obligations.WatchdogTimeOut := by
  intro s
  refine ⟨fun hra => ?disabled, fun hearly => ?early, fun hra hrun hsteps => ?running, fun hra hidle hsteps => ?idle⟩
  case disabled => exact occur_watchdog_of_not fun ⟨hset, _⟩ => Bool.eq_false_iff.1 hra hset
  case early => exact occur_watchdog_of_not fun ⟨_, hsteps⟩ => absurd hsteps (Nat.not_le.2 hearly)
  case running =>
    rw [occur_watchdog_of_expires hra hsteps, watchdogTimeout_of_running hrun]
    exact ⟨rfl, rfl, resetEvent_flagT .watchdog s, resetEvent_flagP .watchdog s, rfl, rfl⟩
  case idle =>
    rw [occur_watchdog_of_expires hra hsteps, watchdogTimeout_of_idle hidle]
    exact ⟨_, rfl, rfl, rfl, rfl⟩

/-! ## Port 9 -/

theorem pinLevel_port9 (s : State) {j : Nat} (hj : j < 8) : (s.pinLevel .port9).getLsbD j = level9 s j := by
  have hpull : (s.pullHigh .port9).getLsbD j = false := BitVec.getLsbD_zero
  rw [pinLevel_getLsbD s .port9 hj, hpull, Bool.false_or, ite_self]
  rfl

theorem fallenPins_port9 (s t : State) {j : Nat} (hj : j < 8) :
    (fallenPins s t .port9).getLsbD j = (level9 s j && !level9 t j) := by
  simp only [fallenPins, BitVec.getLsbD_and, BitVec.getLsbD_not, pinLevel_port9 _ hj, hj, decide_true, Bool.true_and]

/-- A common bit below 3: a pin that fell whose wake-up is enabled (R355). -/
theorem lowBits_and_ne_zero_iff (fell : Byte) (ra : BitVec 7) :
    fell.setWidth 3 &&& ra.setWidth 3 ≠ 0#3 ↔ ∃ j, j < 3 ∧ fell.getLsbD j = true ∧ ra.getLsbD j = true := by
  have hbit {j : Nat} (hj : j < 3) :
      (fell.setWidth 3 &&& ra.setWidth 3).getLsbD j = (fell.getLsbD j && ra.getLsbD j) := by
    simp only [BitVec.getLsbD_and, BitVec.getLsbD_setWidth, hj, decide_true, Bool.true_and]
  constructor
  · intro hne
    by_contra hnone
    refine hne (BitVec.eq_of_getLsbD_eq fun j hj => ?_)
    rw [hbit hj, BitVec.getLsbD_zero]
    exact Bool.eq_false_iff.2 fun hset => hnone ⟨j, hj, Bool.and_eq_true_iff.1 hset⟩
  · rintro ⟨j, hj, hfell, hra⟩ hzero
    have hset := hbit hj
    rw [hzero, hfell, hra, BitVec.getLsbD_zero] at hset
    cases hset

/-- An idle CPU is woken by a fall of P9.0 to P9.2 whose RA bit is set (R355). -/
theorem wakeOnPort9_run_iff (s : State) {t : State} (hidle : t.run = .idle) :
    (wakeOnPort9 s t).run = .running ↔
      ∃ j, j < 3 ∧ level9 s j = true ∧ level9 t j = false ∧ t.ra.getLsbD j = true := by
  have hcond : (wakeOnPort9 s t).run = .running ↔
      (fallenPins s t .port9).setWidth 3 &&& t.ra.setWidth 3 ≠ 0#3 := by
    unfold wakeOnPort9
    split
    · next hwakes =>
      obtain ⟨-, hne⟩ := hwakes
      exact iff_of_true rfl hne
    · next hstays => exact iff_of_false (by simp [hidle]) fun hne => hstays ⟨hidle, hne⟩
  rw [hcond, lowBits_and_ne_zero_iff]
  refine exists_congr fun j => and_congr_right fun hj => ?_
  rw [fallenPins_port9 s t (by omega), Bool.and_eq_true_iff, Bool.not_eq_true', and_assoc]

/-- A change at one pin moves the level of no other. -/
theorem level9_setPort_drive {s : State} {p : PortId} {i : Fin 8} {d : PinDrive} {j : Nat} (hj : j < 8)
    (h : level9 (s.setPort p ((s.port p).drive i d)) j ≠ level9 s j) : p = .port9 ∧ i.val = j := by
  cases p with
  | port9 =>
    refine ⟨rfl, by_contra fun hne => h ?_⟩
    obtain ⟨hdir, hlatch, hext, -⟩ := drive_bits_of_ne s.p9 i d hj hne
    simp only [level9, State.setPort, State.port, hdir, hlatch, hext]
  | _ => exact absurd rfl h

/-- The changes of a pin that wake an idle CPU: a fall of P9.0 to P9.2 with its RA bit set (R353, R355). -/
theorem occur_pin_run_iff {s : State} (p : PortId) (i : Fin 8) (d : PinDrive) (hidle : s.run = .idle) :
    (occur (.pin p i d) s).run = .running ↔ p = .port9 ∧ i.val < 3 ∧ s.ra.getLsbD i.val = true ∧
      level9 s i.val = true ∧ level9 (s.setPort p ((s.port p).drive i d)) i.val = false := by
  have hrun : (recordEdges s (s.setPort p ((s.port p).drive i d))).run = .idle :=
    (DevicesOnly.setPort s p _).run.trans hidle
  have hra : (recordEdges s (s.setPort p ((s.port p).drive i d))).ra = s.ra := by cases p <;> rfl
  have hlevel : level9 (recordEdges s (s.setPort p ((s.port p).drive i d))) =
    level9 (s.setPort p ((s.port p).drive i d)) := rfl
  rw [occur, State.pinChange, wakeOnPort9_run_iff s hrun, hra, hlevel]
  constructor
  · rintro ⟨j, hj, hbefore, hafter, henabled⟩
    have hmoved : level9 (s.setPort p ((s.port p).drive i d)) j ≠ level9 s j := by
      rw [hbefore, hafter]
      exact Bool.false_ne_true
    obtain ⟨hp, rfl⟩ := level9_setPort_drive (by omega) hmoved
    exact ⟨hp, hj, henabled, hbefore, hafter⟩
  · rintro ⟨-, hi, henabled, hbefore, hafter⟩
    exact ⟨i.val, hi, hbefore, hafter, henabled⟩

/-- A wake-up and the recording of edges leave the levels of port 9 alone. -/
theorem level9_occur_pin (s : State) (p : PortId) (i : Fin 8) (d : PinDrive) (j : Nat) :
    level9 (occur (.pin p i d) s) j = level9 (s.setPort p ((s.port p).drive i d)) j := by
  rw [occur, State.pinChange_keeps]
  rfl

theorem putBit_self {i : Nat} {b : Bool} {v : Byte} (h : v.getLsbD i = b) : putBit i b v = v := by
  refine BitVec.eq_of_getLsbD_eq fun j hj => ?_
  rw [putBit_getLsbD b v hj]
  split
  · next hij => rw [← hij, h]
  · rfl

/-- Driving low a pin that is driven already clears its level. -/
theorem drive_low_of_driven {p : Port} {i : Fin 8} (h : p.driven.getLsbD i.val = true) :
    p.drive i (.driven false) = { p with ext := p.ext &&& ~~~(1#8 <<< i.val) } := by
  rw [Port.drive, putBit_self h]
  rfl

/-- Settles O57: no edge of port 6 is made, and the wake-up is the one by a fall at port 9. -/
theorem port9EdgesWake : Obligations.Port9EdgesWake := by
  intro s j hidle hin hdriven hhigh
  refine ⟨_, rfl, ?frame, ?wakes⟩
  case frame =>
    have hrf : (s.pinChange .port9 j (.driven false)).rf = s.rf :=
      calc _ = _ := occur_pin_rf s .port9 j (.driven false)
        _ = s.rf := by
          rw [fallenPins_port6_of_otherPort s (by decide), edgeFlags_zero, BitVec.zero_and, BitVec.or_zero]
    have hkeeps := State.pinChange_keeps s .port9 j (.driven false)
    rw [hrf, drive_low_of_driven (p := s.port .port9) hdriven] at hkeeps
    exact hkeeps
  case wakes =>
    have hbefore : level9 s j.val = true := by simp only [level9, hin, hhigh, if_true]
    have hafter : level9 (s.setPort .port9 ((s.port .port9).drive j (.driven false))) j.val = false := by
      simp only [level9, State.setPort, State.port, Port.drive, putBit_getLsbD _ _ j.isLt, hin, if_true]
    rw [occur_pin_run_iff .port9 j (.driven false) hidle]
    simp [hbefore, hafter]

/-! ## Leaving the idle state -/

/-- The CPU's own turn does not end its idle state (R352). -/
theorem cpuTurn_run_of_idle {s t : State} (h : cpuTurn s = .next t) (hidle : s.run = .idle) : t.run = .idle := by
  obtain ⟨-, hturn⟩ | ⟨-, -, hturn⟩ | ⟨-, hrun, -⟩ | ⟨-, hrun, -⟩ := cpuTurn_cases s
  case inl =>
    obtain rfl := Host.Outcome.next.inj (hturn.symm.trans h)
    exact hidle
  case inr.inl =>
    obtain rfl := Host.Outcome.next.inj (hturn.symm.trans h)
    exact hidle
  all_goals exact nomatch hrun.symm.trans hidle

/-- A tick changes the prescaler, and the TCC may count (R363). -/
theorem occur_tccTick_cases (s : State) :
    ∃ q, occur .tccTick s = s.setPre q ∨ occur .tccTick s = (s.setPre q).tccCount := by
  simp only [occur, State.tccTick]
  split
  · split
    · exact ⟨s.pre, .inr rfl⟩
    · split
      · exact ⟨s.pre + 1#8, .inr rfl⟩
      · exact ⟨s.pre + 1#8, .inl rfl⟩
  · exact ⟨s.pre, .inl rfl⟩

/-- An idle CPU runs on after a count only at the overflow, with TS and the mask bit set (R354). -/
theorem tccCount_run_iff {s : State} (hidle : s.run = .idle) :
    s.tccCount.run = .running ↔ s.tcc = 0xFF#8 ∧ s.cont.getLsbD 5 = true ∧ s.iocf.getLsbD 0 = true := by
  by_cases hfull : s.tcc = 0xFF#8
  · rw [tccCount_of_overflow hfull, tccOverflow_eq]
    split
    · next hwakes =>
      obtain ⟨-, hts, hmask⟩ := hwakes
      exact iff_of_true rfl ⟨hfull, hts, hmask⟩
    · next hstays =>
      refine iff_of_false (fun hrun => nomatch hidle.symm.trans hrun) fun ⟨_, hts, hmask⟩ => ?_
      exact hstays ⟨hidle, hts, hmask⟩
  · rw [tccCount_of_ne hfull]
    exact iff_of_false (fun hrun => nomatch hidle.symm.trans hrun) fun ⟨h, _⟩ => hfull h

theorem occur_tccTick_wakes {s : State} (hidle : s.run = .idle) (hrun : (occur .tccTick s).run = .running) :
    s.tcc = 0xFF#8 ∧ s.cont.getLsbD 5 = true ∧ s.iocf.getLsbD 0 = true := by
  obtain ⟨q, hpre | hcount⟩ := occur_tccTick_cases s
  · rw [hpre] at hrun
    exact nomatch hidle.symm.trans hrun
  · rw [hcount] at hrun
    exact (tccCount_run_iff (s := s.setPre q) hidle).1 hrun

theorem occur_counter1Tick_frame (s : State) :
    occur .counter1Tick s = { s with
      cpre1 := (occur .counter1Tick s).cpre1, cnt1 := (occur .counter1Tick s).cnt1
      rf := (occur .counter1Tick s).rf } := by
  simp only [occur, counter1Tick_eq]
  repeat' split
  all_goals rfl

theorem occur_counter2Tick_frame (s : State) :
    occur .counter2Tick s = { s with cnt2 := (occur .counter2Tick s).cnt2, rf := (occur .counter2Tick s).rf } := by
  simp only [occur, State.counter2Tick]
  repeat' split
  all_goals rfl

/-- The events that end an idle state (R353 to R357), with the state of the machine they need. -/
theorem occur_leaves_idle (e : Event) {s : State} (hidle : s.run = .idle) (hrun : (occur e s).run = .running) :
    (e = .tccTick ∧ s.tcc = 0xFF#8 ∧ s.cont.getLsbD 5 = true ∧ s.iocf.getLsbD 0 = true) ∨
    (e = .watchdog ∧ s.ra.getLsbD 3 = true) ∨
    (∃ (j : Fin 8) (d : PinDrive), e = .pin .port9 j d ∧ j.val < 3 ∧ s.ra.getLsbD j.val = true ∧
      level9 s j.val = true ∧ level9 (occur e s) j.val = false) ∨
    (∃ v, e = .supplyReset v ∧ v = s.cfg.resetSource) ∨ e = .resetPin true := by
  have hsame {t : State} (ht : t.run = s.run) (htrun : t.run = .running) : False :=
    nomatch (htrun.symm.trans ht).trans hidle
  cases e with
  | tccTick => exact .inl ⟨rfl, occur_tccTick_wakes hidle hrun⟩
  | watchdog =>
    by_cases hmay : s.ra.getLsbD 3 = true ∧ s.cfg.wdtMinSteps ≤ s.wdt
    · obtain ⟨hra, -⟩ := hmay
      exact .inr (.inl ⟨rfl, hra⟩)
    · rw [occur_watchdog_of_not hmay] at hrun
      exact (hsame rfl hrun).elim
  | counter1Tick => exact (hsame (by rw [occur_counter1Tick_frame]) hrun).elim
  | counter2Tick => exact (hsame (by rw [occur_counter2Tick_frame]) hrun).elim
  | pin p i d =>
    obtain ⟨rfl, hi, henabled, hbefore, hafter⟩ := (occur_pin_run_iff p i d hidle).1 hrun
    rw [← level9_occur_pin] at hafter
    exact .inr (.inr (.inl ⟨i, d, rfl, hi, henabled, hbefore, hafter⟩))
  | supply v => cases v <;> exact (hsame rfl hrun).elim
  | supplyReset v =>
    by_cases hv : v = s.cfg.resetSource
    · exact .inr (.inr (.inr (.inl ⟨v, rfl, hv⟩)))
    · rw [occur, if_neg hv] at hrun
      exact (hsame rfl hrun).elim
  | resetPin low =>
    cases low with
    | true => exact .inr (.inr (.inr (.inr rfl)))
    | false => exact (hsame rfl hrun).elim

/-- Settles O50: the CPU's own turn does not end the idle state, and of the events those of `occur_leaves_idle` can. -/
theorem idleIsLeftByWakeUpOrReset : Obligations.IdleIsLeftByWakeUpOrReset := by
  intro s t hidle hstep hrun
  have hcpu {u : State} (hu : u.run = .idle) (hturn : cpuTurn u = .next t) : False :=
    nomatch hrun.symm.trans (cpuTurn_run_of_idle hturn hu)
  obtain ⟨-, hturn⟩ | ⟨rest, -, hturn⟩ | ⟨e, rest, hagenda, hturn⟩ := takeTurn_cases s
  · exact (hcpu hidle (hturn.symm.trans hstep)).elim
  · exact (hcpu (u := s.setAgenda rest) hidle (hturn.symm.trans hstep)).elim
  · obtain rfl := Host.Outcome.next.inj (hturn.symm.trans hstep)
    exact ⟨e, rest, hagenda, occur_leaves_idle e (s := s.setAgenda rest) hidle hrun⟩

/-! ## Fairness

An idle machine that never runs on would be a run of idle states without end (`IdleRun`). In it the ticks of the TCC
come again and again and each adds to what the TCC and its prescaler have counted (`tccPhase`), which is bounded; and
the CPU's turns come again and again and each adds to the watchdog's count, which so passes every limit. -/

/-! ### What a turn adds to the counts of a machine that stays idle -/

theorem tccCount_wdt (s : State) : s.tccCount.wdt = s.wdt := by
  unfold State.tccCount State.tccOverflow
  dsimp only
  repeat' split
  all_goals rfl

theorem occur_tccTick_wdt (s : State) : (occur .tccTick s).wdt = s.wdt := by
  obtain ⟨q, hpre | hcount⟩ := occur_tccTick_cases s
  · rw [hpre, State.setPre_wdt]
  · rw [hcount, tccCount_wdt, State.setPre_wdt]

/-- An event after which the CPU is idle leaves the watchdog's count and, but for the TCC's tick, the TCC's. -/
theorem occur_counts (e : Event) {s : State} (hidle : (occur e s).run = .idle) :
    (occur e s).wdt = s.wdt ∧ (e ≠ .tccTick → (occur e s).tcc = s.tcc ∧ (occur e s).pre = s.pre) := by
  cases e with
  | tccTick => exact ⟨occur_tccTick_wdt s, fun hne => absurd rfl hne⟩
  | watchdog =>
    by_cases hmay : s.ra.getLsbD 3 = true ∧ s.cfg.wdtMinSteps ≤ s.wdt
    · obtain ⟨hra, hsteps⟩ := hmay
      rw [occur_watchdog_of_expires hra hsteps, State.watchdogTimeout] at hidle
      split at hidle <;> cases hidle
    · rw [occur_watchdog_of_not hmay]
      exact ⟨rfl, fun _ => ⟨rfl, rfl⟩⟩
  | counter1Tick =>
    rw [occur_counter1Tick_frame]
    exact ⟨rfl, fun _ => ⟨rfl, rfl⟩⟩
  | counter2Tick =>
    rw [occur_counter2Tick_frame]
    exact ⟨rfl, fun _ => ⟨rfl, rfl⟩⟩
  | pin p i d =>
    rw [occur, State.pinChange_keeps]
    cases p <;> exact ⟨rfl, fun _ => ⟨rfl, rfl⟩⟩
  | supply v => cases v <;> exact ⟨rfl, fun _ => ⟨rfl, rfl⟩⟩
  | supplyReset v =>
    by_cases hv : v = s.cfg.resetSource
    · rw [occur, if_pos hv] at hidle
      cases hidle
    · rw [occur, if_neg hv]
      exact ⟨rfl, fun _ => ⟨rfl, rfl⟩⟩
  | resetPin low =>
    cases low with
    | false => exact ⟨rfl, fun _ => ⟨rfl, rfl⟩⟩
    | true =>
      simp only [occur, State.resetPinChange, if_true] at hidle ⊢
      split at hidle
      · next hlow =>
        rw [if_pos hlow]
        exact ⟨rfl, fun _ => ⟨rfl, rfl⟩⟩
      · cases hidle

/-- From states idle since `s`, no turn after which the machine is still idle lowers `f`, and the turn `x` raises it. -/
def Counts (s : State) (x : Turn) (f : State → Nat) : Prop :=
  ∀ y u t, StillIdle s u → step (u.setAgenda [y]) = .next t → StillIdle s t → f u ≤ f t ∧ (y = x → f u < f t)

/-- An idle CPU's turns count as the watchdog's steps (R366, R368). -/
theorem counts_wdt (s : State) : Counts s .cpu State.wdt := by
  intro y u t hu hstep ht
  cases y with
  | cpu =>
    obtain rfl := Host.Outcome.next.inj ((cpuTurn_idle (s := u.setAgenda []) hu.run hu.resetLow).symm.trans hstep)
    exact ⟨Nat.le_succ u.wdt, fun _ => Nat.lt_succ_self u.wdt⟩
  | event e =>
    obtain rfl := Host.Outcome.next.inj hstep
    obtain ⟨hwdt, -⟩ := occur_counts e (s := u.setAgenda []) ht.run
    exact ⟨hwdt.ge, fun h => nomatch h⟩

/-- How many ticks the TCC and, where it has it, its prescaler have counted towards the overflow (R361, R363). -/
def tccPhase (s : State) : Nat :=
  if s.cont.getLsbD 3 then s.tcc.toNat
  else s.tcc.toNat * 2 ^ (s.cont.toNat % 8 + 1) + s.pre.toNat % 2 ^ (s.cont.toNat % 8 + 1)

theorem tccPhase_lt (s : State) : tccPhase s < 65536 := by
  have htcc : s.tcc.toNat < 256 := s.tcc.isLt
  unfold tccPhase
  split
  · omega
  · have hratio : 2 ^ (s.cont.toNat % 8 + 1) ≤ 256 := Nat.pow_le_pow_right (show 0 < 2 by omega) (show _ ≤ 8 by omega)
    have hpre : s.pre.toNat % 2 ^ (s.cont.toNat % 8 + 1) < 2 ^ (s.cont.toNat % 8 + 1) := Nat.mod_lt _ (by positivity)
    calc s.tcc.toNat * 2 ^ (s.cont.toNat % 8 + 1) + s.pre.toNat % 2 ^ (s.cont.toNat % 8 + 1)
      _ < (s.tcc.toNat + 1) * 2 ^ (s.cont.toNat % 8 + 1) := by
        rw [Nat.add_one_mul]
        omega
      _ ≤ 256 * 256 := Nat.mul_le_mul htcc hratio

theorem toNat_add_one_of_ne {v : Byte} (h : v ≠ 0xFF#8) : (v + 1#8).toNat = v.toNat + 1 := by
  bv_omega

theorem add_one_mod_of_ne_zero {n r : Nat} (h : (n + 1) % r ≠ 0) : (n + 1) % r = n % r + 1 := by
  have hdiv : (n + 1) / r = n / r := Nat.succ_div_of_not_dvd (mt Nat.mod_eq_zero_of_dvd h)
  have hsucc := Nat.div_add_mod (n + 1) r
  have hn := Nat.div_add_mod n r
  rw [hdiv] at hsucc
  omega

/-- A tick of an idle CPU's TCC that does not end the idle state adds to what is counted. -/
theorem tccPhase_lt_of_tick {s : State} (hlow : s.resetLow = false) (hts : s.cont.getLsbD 5 = true)
    (hmask : s.iocf.getLsbD 0 = true) (hidle : s.run = .idle) (hstays : (occur .tccTick s).run = .idle) :
    tccPhase s < tccPhase (occur .tccTick s) := by
  rw [occur_tccTick_of_clocked hlow (.inr hts)] at hstays ⊢
  have hratio : 0 < 2 ^ (s.cont.toNat % 8 + 1) := by positivity
  by_cases hcounts : s.cont.getLsbD 3 = true ∨ rollsOver s
  · rw [tccTick_of_counts hcounts] at hstays ⊢
    have hnotFull : s.tcc ≠ 0xFF#8 := fun hfull =>
      nomatch ((tccCount_run_iff (s := s.setPre (tickedPre s)) hidle).2 ⟨hfull, hts, hmask⟩).symm.trans hstays
    rw [tccCount_of_ne (s := s.setPre (tickedPre s)) hnotFull]
    simp only [tccPhase, State.setPre_cont, State.setPre_tcc, toNat_add_one_of_ne hnotFull]
    split
    · exact Nat.lt_succ_self _
    · have hpre : s.pre.toNat % 2 ^ (s.cont.toNat % 8 + 1) < 2 ^ (s.cont.toNat % 8 + 1) := Nat.mod_lt _ hratio
      rw [Nat.add_one_mul]
      omega
  · obtain ⟨hpab, hnot⟩ := not_or.1 hcounts
    have hpab := Bool.eq_false_iff.2 hpab
    rw [tccTick_of_prescaler hpab, if_neg hnot]
    simp only [tccPhase, State.setPre_cont, State.setPre_tcc, State.setPre_pre, hpab, Bool.false_eq_true, if_false]
    rw [toNat_add_one_mod s.pre (by omega), add_one_mod_of_ne_zero hnot]
    omega

/-- With TS and the mask bit set the ticks of an idle CPU's TCC are counted (R363). -/
theorem counts_tccPhase {s : State} (hts : s.cont.getLsbD 5 = true) (hmask : s.iocf.getLsbD 0 = true) :
    Counts s (.event .tccTick) tccPhase := by
  intro y u t hu hstep ht
  cases y with
  | cpu =>
    obtain rfl := Host.Outcome.next.inj ((cpuTurn_idle (s := u.setAgenda []) hu.run hu.resetLow).symm.trans hstep)
    exact ⟨Nat.le_refl (tccPhase u), fun h => nomatch h⟩
  | event e =>
    obtain rfl := Host.Outcome.next.inj hstep
    by_cases he : e = .tccTick
    · subst he
      rw [← hu.cont] at hts
      rw [← hu.iocf] at hmask
      have hlt := tccPhase_lt_of_tick (s := u.setAgenda []) hu.resetLow hts hmask hu.run ht.run
      exact ⟨hlt.le, fun _ => hlt⟩
    · obtain ⟨-, hkept⟩ := occur_counts e (s := u.setAgenda []) ht.run
      obtain ⟨htcc, hpre⟩ := hkept he
      have hcont : (occur e (u.setAgenda [])).cont = s.cont := ht.cont
      have hsame : tccPhase (occur e (u.setAgenda [])) = tccPhase u := by
        simp only [tccPhase, htcc, hpre, hcont, hu.cont, State.setAgenda_tcc, State.setAgenda_pre]
      exact ⟨hsame.ge, fun h => absurd (Turn.event.inj h) he⟩

/-! ### A run that is idle for ever -/

/-- The states `u` of a run from `s` that never leaves the idle state. -/
structure IdleRun (c : Course) (s : State) (u : Nat → State) : Prop where
  run : ∀ n, courseRun c s n = .next (u n)
  idle : ∀ n, StillIdle s (u n)

theorem IdleRun.step {c : Course} {s : State} {u : Nat → State} (h : IdleRun c s u) (n : Nat) :
    step ((u n).setAgenda [c n]) = .next (u (n + 1)) := by
  obtain ⟨v, hv, hstep⟩ := courseRun_succ_eq_next.1 (h.run (n + 1))
  rwa [← Host.Outcome.next.inj ((h.run n).symm.trans hv)] at hstep

/-- An idle machine runs on at some turn, idle until then, or is idle for ever. -/
theorem runsOn_or_idleRun (c : Course) {s : State} (hidle : s.run = .idle) (hlow : s.resetLow = false) :
    (∃ n t, courseRun c s n = .next t ∧ RunsOn s t ∧ ∀ m, m < n → ∃ u, courseRun c s m = .next u ∧ StillIdle s u) ∨
    ∃ u, IdleRun c s u := by
  by_cases hstays : ∀ n, ∃ u, courseRun c s n = .next u ∧ StillIdle s u
  · choose u hrun hstill using hstays
    exact .inr ⟨u, hrun, hstill⟩
  · obtain ⟨n, hn⟩ := not_forall.1 hstays
    obtain ⟨m, t, -, hrunsOn⟩ | hidle := courseRun_idle c hidle hlow n
    · exact .inl ⟨m, t, hrunsOn⟩
    · exact absurd (hidle n (Nat.le_refl n)) hn

/-- An event under fairness comes after any turn from which its guard holds (R390, D23). -/
theorem IdleRun.happens {c : Course} {s : State} {u : Nat → State} {guard : State → Bool} {e : Event}
    (h : IdleRun c s u) (hfair : eventually guard e c s) {n : Nat} (hguard : ∀ m, n ≤ m → guard (u m) = true) :
    ∃ m, n ≤ m ∧ c m = .event e := by
  obtain ⟨m, hm, he | hnot⟩ := hfair n
  · exact ⟨m, hm, he⟩
  · exact nomatch (hguard m hm).symm.trans (hnot (u m) (h.run m))

/-- A count of turns that come again and again passes every limit for good. -/
theorem IdleRun.unbounded {c : Course} {s : State} {u : Nat → State} {x : Turn} {f : State → Nat}
    (h : IdleRun c s u) (hf : Counts s x f) (hx : ∀ n, ∃ m, n ≤ m ∧ c m = x) (limit : Nat) :
    ∃ n, ∀ m, n ≤ m → limit ≤ f (u m) := by
  have hcounts (m : Nat) := hf (c m) (u m) (u (m + 1)) (h.idle m) (h.step m) (h.idle (m + 1))
  have hmono : Monotone fun m => f (u m) := monotone_nat_of_le_succ fun m => (hcounts m).1
  induction limit with
  | zero => exact ⟨0, fun m _ => Nat.zero_le _⟩
  | succ limit ih =>
    obtain ⟨n, hn⟩ := ih
    obtain ⟨m, hm, hcm⟩ := hx n
    have hlt : f (u m) < f (u (m + 1)) := (hcounts m).2 hcm
    exact ⟨m + 1, fun k hk => (Nat.lt_of_le_of_lt (hn m hm) hlt).trans_le (hmono hk)⟩

/-- Under fairness the TCC with TS and its mask bit set ends the idle state: its ticks would be counted without
bound. -/
theorem IdleRun.false_of_tcc {c : Course} {s : State} {u : Nat → State} (h : IdleRun c s u) (hfair : fair c s)
    (hts : s.cont.getLsbD 5 = true) (hmask : s.iocf.getLsbD 0 = true) : False := by
  obtain ⟨htcc, -⟩ := hfair
  have hclocked (m : Nat) : (u m).tccClocked = true := by
    rw [State.tccClocked, State.tccOnSubClock, (h.idle m).resetLow, (h.idle m).cont, hts]
    rfl
  have hticks (n : Nat) : ∃ m, n ≤ m ∧ c m = .event .tccTick := h.happens htcc fun m _ => hclocked m
  obtain ⟨n, hn⟩ := h.unbounded (counts_tccPhase hts hmask) hticks 65536
  exact absurd (tccPhase_lt (u n)) (Nat.not_lt.2 (hn n (Nat.le_refl n)))

/-- Under fairness the enabled watchdog ends the idle state: the CPU's turns carry its count past `WDT_MIN_STEPS`, and
the time-out that then comes is a wake-up. -/
theorem IdleRun.false_of_watchdog {c : Course} {s : State} {u : Nat → State} (h : IdleRun c s u) (hfair : fair c s)
    (hra : s.ra.getLsbD 3 = true) : False := by
  obtain ⟨-, -, -, hwatchdog, hcpu⟩ := hfair
  have henabled (m : Nat) : (u m).ra.getLsbD 3 = true := by rw [(h.idle m).ra, hra]
  obtain ⟨n, hn⟩ := h.unbounded (counts_wdt s) hcpu (s.cfg.wdtMinSteps + 1)
  have hguard (m : Nat) (hm : n ≤ m) : (u m).wdtRunning = true := by
    have hsteps : (u m).wdt ≠ 0 := Nat.ne_zero_of_lt (hn m hm)
    rw [State.wdtRunning, State.wdtEnabled, henabled, decide_eq_true hsteps]
    rfl
  obtain ⟨m, hm, hcm⟩ := h.happens hwatchdog hguard
  have hsteps : (u m).cfg.wdtMinSteps ≤ (u m).wdt := by
    rw [(h.idle m).cfg]
    exact Nat.le_of_succ_le (hn m hm)
  have hstep := h.step m
  rw [hcm, step_setAgenda_event, occur_watchdog_of_expires (s := (u m).setAgenda []) (henabled m) hsteps,
    watchdogTimeout_of_idle (s := (u m).setAgenda []) (h.idle m).run] at hstep
  have hwoken : (u (m + 1)).run = .running := by
    rw [← Host.Outcome.next.inj hstep]
    rfl
  exact nomatch hwoken.symm.trans (h.idle (m + 1)).run

/-- Settles O24: a run that is idle for ever is not fair to the TCC, or not to the watchdog. -/
theorem fairIdleCpuRunsOn : Obligations.FairIdleCpuRunsOn := by
  intro c s hfair hidle hlow hsource
  obtain ⟨n, t, ht, ⟨hrun, hpc⟩, hbefore⟩ | ⟨u, hu⟩ := runsOn_or_idleRun c hidle hlow
  · refine ⟨n, t, ht, hrun, hpc, fun m hm => ?_⟩
    obtain ⟨v, hv, hstill⟩ := hbefore m hm
    exact ⟨v, hv, hstill.run, hstill.pc⟩
  · obtain ⟨hts, hmask⟩ | hra := hsource
    · exact (hu.false_of_tcc hfair hts hmask).elim
    · exact (hu.false_of_watchdog hfair hra).elim

end Sys2Proof.Proofs

namespace Sys2Proof.Proofs

open Sys2Proof.Machine Sys2Proof.Claims

/-! ## The reset causes from outside -/

section
variable {v : ResetSource} {s : State}

/-- The supply condition that the code option enables is a reset (R401, D40). -/
theorem occur_supplyReset_of_enabled (h : v = s.cfg.resetSource) :
    occur (.supplyReset v) s = resetEvent .supply s := if_pos h

theorem occur_supplyReset_of_not_enabled (h : v ≠ s.cfg.resetSource) : occur (.supplyReset v) s = s := if_neg h

/-- The pin going low is one reset, and then holds (R400, D26). -/
theorem occur_resetPin_low_of_released (h : s.resetLow = false) :
    occur (.resetPin true) s = { resetEvent .pin s with resetLow := true } := by
  rw [occur, State.resetPinChange, if_pos rfl, if_neg (Bool.eq_false_iff.1 h)]

/-- A pin that is low already resets no further time. -/
theorem occur_resetPin_low_of_held (h : s.resetLow = true) : occur (.resetPin true) s = s := by
  rw [occur, State.resetPinChange, if_pos rfl, if_pos h]

theorem occur_resetPin_high (s : State) : occur (.resetPin false) s = { s with resetLow := false } := rfl

end

/-- Settles O59: the supply condition by the code option, the pin by whether it is low already. -/
theorem resetCausesFromOutside : Obligations.ResetCausesFromOutside := by
  intro v s
  exact ⟨occur_supplyReset_of_enabled, occur_supplyReset_of_not_enabled, occur_resetPin_low_of_released,
    occur_resetPin_low_of_held, occur_resetPin_high s⟩

end Sys2Proof.Proofs
